-- ==== Sys2Proof/Word.lean ====
section
/-! DEFINITION. The plain words and names of the Melbrin 2448: octets, guard times, channel ids, stages, outputs, zones, levels and ports. -/

namespace Sys2Proof

/-- One octet of a frame (R178, R179). -/
abbrev Byte := BitVec 8

/-- A guard time: the 32-bit count of microseconds that wraps (section 0.6, R1). -/
abbrev Time := BitVec 32

/-- A channel id, 0 to 63: stage times 16 plus output index (section 0.6). -/
abbrev Chan := Fin 64

/-- A stage of the D-port bus, 0 to 3 (section 0.2). -/
abbrev Stage := Fin 4

/-- An output index of a stage, 0 to 15 (section 0.6). -/
abbrev Output := Fin 16

/-- A zone, 0 (line ZEN0) or 1 (line ZEN1) (R3, R147). -/
abbrev Zone := Fin 2

/-- The level of a setting, of a request or of an output (section 0.6). -/
inductive Level where
  | off
  | on
  deriving DecidableEq, Repr

/-- The two serial ports (section 0.2). -/
inductive Port where
  | u
  | d
  deriving DecidableEq, Repr

/-- The two causes of a device reset (R119). -/
inductive ResetCause where
  | rstn
  | supply
  deriving DecidableEq, Repr

/-- The stage of a channel: its id divided by 16 (R3). -/
def Chan.stage (c : Chan) : Stage := ⟨c.val / 16, by omega⟩

/-- The output index of a channel: the remainder of its id by 16 (R3). -/
def Chan.output (c : Chan) : Output := ⟨c.val % 16, by omega⟩

/-- The channel of an output of a stage: stage times 16 plus output index (section 0.6). -/
def Chan.of (s : Stage) (o : Output) : Chan := ⟨s.val * 16 + o.val, by omega⟩

end Sys2Proof
end

