-- ==== Sys2Proof/Syntax.lean ====
section
/-! DEFINITION. The commands of the guard: one constructor per row of spec/opcode_table.json. -/

namespace Sys2Proof

/-- The operations and events of spec/opcode_table.json, each whole and indivisible.
Every one carries `dt`, the microseconds of guard time that passed since the event before it (log entry 1);
the rest of its operands is what its rule reads: a frame's address, header 1 and payload, a request's tag and
arguments, or which stage, zone, channel, context or port the event is of. -/
inductive Instr where
  /-- DEVICE_RESET (R119): RSTn is asserted, or the supply falls below 3.0 V. -/
  | deviceReset (dt : Nat) (cause : ResetCause)
  /-- RESET_RELEASE (R119, R120): RSTn is negated, or the supply rises into its range. -/
  | resetRelease (dt : Nat) (cause : ResetCause)
  /-- STARTUP_HOLD_EXPIRY (R121). -/
  | startupHoldExpiry (dt : Nat)
  /-- WAKE_RESTART (R131, R132): the U-port line returns high, `low` microseconds after its fall. -/
  | wakeRestart (dt : Nat) (low : Nat)
  /-- DRIVE_FRAME (R69). -/
  | driveFrame (dt : Nat) (addr : BitVec 4) (seq : Byte) (payload : List Byte)
  /-- AUX_FRAME (R82). -/
  | auxFrame (dt : Nat) (addr : BitVec 4) (seq : Byte) (payload : List Byte)
  /-- TICK (R136). -/
  | tick (dt : Nat) (addr : BitVec 4) (seq : Byte) (payload : List Byte)
  /-- CLOSED_EXPIRY (R139). -/
  | closedExpiry (dt : Nat)
  /-- LATE_FAILURE (R139, R140). -/
  | lateFailure (dt : Nat)
  /-- RESETTING_EXPIRY (R141). -/
  | resettingExpiry (dt : Nat)
  /-- GRACE_EXPIRY (R142). -/
  | graceExpiry (dt : Nat)
  /-- QUERY (R161): a MGMT frame with request name 1. -/
  | query (dt : Nat) (addr : BitVec 4) (tag : Byte) (args : List Byte)
  /-- CHANNEL_READ (R163): request name 2. -/
  | channelRead (dt : Nat) (addr : BitVec 4) (tag : Byte) (args : List Byte)
  /-- TABLE_READ (R164): request name 3. -/
  | tableRead (dt : Nat) (addr : BitVec 4) (tag : Byte) (args : List Byte)
  /-- TABLE_WRITE (R6): request name 4. -/
  | tableWrite (dt : Nat) (addr : BitVec 4) (tag : Byte) (args : List Byte)
  /-- TABLE_DELETE (R7): request name 5. -/
  | tableDelete (dt : Nat) (addr : BitVec 4) (tag : Byte) (args : List Byte)
  /-- SETTINGS_READ (R164): request name 6. -/
  | settingsRead (dt : Nat) (addr : BitVec 4) (tag : Byte) (args : List Byte)
  /-- SETTINGS_WRITE (R8): request name 7. -/
  | settingsWrite (dt : Nat) (addr : BitVec 4) (tag : Byte) (args : List Byte)
  /-- COMMIT (R11): request name 8. -/
  | commit (dt : Nat) (addr : BitVec 4) (tag : Byte) (args : List Byte)
  /-- DISCARD (R9): request name 9. -/
  | discard (dt : Nat) (addr : BitVec 4) (tag : Byte) (args : List Byte)
  /-- START (R122): request name 10. -/
  | start (dt : Nat) (addr : BitVec 4) (tag : Byte) (args : List Byte)
  /-- STOP (R123): request name 11. -/
  | stop (dt : Nat) (addr : BitVec 4) (tag : Byte) (args : List Byte)
  /-- SAFE (R126): request name 12. -/
  | safe (dt : Nat) (addr : BitVec 4) (tag : Byte) (args : List Byte)
  /-- RESUME (R127): request name 13. -/
  | resume (dt : Nat) (addr : BitVec 4) (tag : Byte) (args : List Byte)
  /-- LOG_READ (R168): request name 14. -/
  | logRead (dt : Nat) (addr : BitVec 4) (tag : Byte) (args : List Byte)
  /-- VALIDATION_COMPLETION (R160). -/
  | validationCompletion (dt : Nat)
  /-- REPORT (R106). -/
  | report (dt : Nat) (addr : BitVec 4) (seq : Byte) (payload : List Byte)
  /-- REPORT_TIMER_EXPIRY (R109). -/
  | reportTimerExpiry (dt : Nat) (stage : Stage)
  /-- ZONE_LINE_EDGE (R146): the line of a zone takes a level; `true` is high. -/
  | zoneLineEdge (dt : Nat) (zone : Zone) (high : Bool)
  /-- RECOGNISED_CHANGE (R146). -/
  | recognisedChange (dt : Nat) (zone : Zone)
  /-- TOGGLE_TIMER_EXPIRY (R150). -/
  | toggleTimerExpiry (dt : Nat) (zone : Zone)
  /-- DEAD_ENTRY_TAKEN (R36): the head of the Pending Queue is taken. -/
  | deadEntryTaken (dt : Nat)
  /-- DWELL_ENTRY_TAKEN (R37): the head of the Pending Queue is taken. -/
  | dwellEntryTaken (dt : Nat)
  /-- ON_TIMER_EXPIRY (R39, R40). -/
  | onTimerExpiry (dt : Nat) (chan : Chan)
  /-- CLEARING_TIMER_EXPIRY (R52): of the context with this target. -/
  | clearingTimerExpiry (dt : Nat) (target : Chan)
  /-- CHARGING_EXPIRY (R54). -/
  | chargingExpiry (dt : Nat) (target : Chan)
  /-- SETTLE_EXPIRY (R56). -/
  | settleExpiry (dt : Nat) (target : Chan)
  /-- ARBITER_CHOICE (R93). -/
  | arbiterChoice (dt : Nat)
  /-- EMISSION_COMPLETION (R99). -/
  | emissionCompletion (dt : Nat)
  /-- D_PORT_GAP_END (R92). -/
  | dPortGapEnd (dt : Nat)
  /-- HEAD_TAKEN (R114). -/
  | headTaken (dt : Nat)
  /-- U_PORT_FRAME_SENT (R114). -/
  | uPortFrameSent (dt : Nat)
  /-- U_PORT_GAP_END (R114). -/
  | uPortGapEnd (dt : Nat)
  /-- FRAMING_FAULT (R182). -/
  | framingFault (dt : Nat) (port : Port)
  /-- LENGTH_ABOVE_32 (R182). -/
  | lengthAbove32 (dt : Nat) (port : Port)
  /-- FRAME_CUT_SHORT (R181). -/
  | frameCutShort (dt : Nat) (port : Port)
  /-- BREAK (R183). -/
  | breakBegin (dt : Nat) (port : Port)
  /-- BREAK_END (R183). -/
  | breakEnd (dt : Nat) (port : Port)
  /-- CRC_FAULT (R182). -/
  | crcFault (dt : Nat) (port : Port)
  /-- WRONG_KIND (R182). -/
  | wrongKind (dt : Nat) (port : Port)
  /-- OCTET_SAMPLED (R181). -/
  | octetSampled (dt : Nat) (port : Port) (octet : Byte)
  /-- UNKNOWN_REQUEST (R158): a MGMT frame with its whole payload. -/
  | unknownRequest (dt : Nat) (addr : BitVec 4) (tag : Byte) (payload : List Byte)
  deriving DecidableEq, Repr

end Sys2Proof
end

