-- ==== Sys2Proof/Decode.lean ====
section
/-! DEFINITION. The commands the table's words spell. No row of spec/opcode_table.json gives bits, so no word spells one (log entry 6). -/

namespace Sys2Proof

/-- The command a word of `nbits` bits spells: none, since no row of the table gives bits. -/
def decodeTableWord (_nbits _w : Nat) : Option Instr := none

end Sys2Proof
end

