-- ==== Sys2Proof/Config.lean ====
section
/-! DEFINITION. What the part fixes once: the guard's link address, the capacities and the fixed durations the spec gives. The spec calls no value undefined, so no free value stands here (log entry 30). -/

namespace Sys2Proof.Config

/-- The guard's own link address (section 0.2, R180). -/
def linkAddress : BitVec 4 := 15

/-- The most entries of a copy of the Channel Table (R2). -/
def tableCapacity : Nat := 48

/-- The most AUX records that wait in the Emit Queue (R83). -/
def auxCapacity : Nat := 4

/-- The most frames in the Upstream Queue (R113). -/
def upstreamCapacity : Nat := 8

/-- The most records in the Fault Log (R171). -/
def logCapacity : Nat := 16

/-- The most payload octets of a frame (R179). -/
def maxPayload : Nat := 32

/-- The most fault records one LOG-READ response carries (R168). -/
def logReadMost : Nat := 3

/-- The start-up hold, 10 ms in microseconds (R121). -/
def startupHoldTime : Nat := 10000

/-- The time a zone line holds a new level before it is recognised, in microseconds (R146). -/
def recognitionTime : Nat := 10

/-- The least low period of the wake pattern, 2 ms in microseconds (R131). -/
def wakeLowTime : Nat := 2000

/-- The four stages in the order in which quenches are placed (R90). -/
def allStages : List Stage := [0, 1, 2, 3]

end Sys2Proof.Config
end

