-- ==== Sys2Proof/Machine/State.lean ====
section
/-! DEFINITION. The state of the guard as plain data: every table, record, queue, timer, count and pin the spec names, the value after reset, and the (empty) reasons to stop. -/

namespace Sys2Proof.Machine

/-! ## Containers of fixed size -/

/-- One value for each of the four stages. -/
structure PerStage (α : Type) where
  s0 : α
  s1 : α
  s2 : α
  s3 : α
  deriving DecidableEq, Repr

/-- The value of a stage. -/
def PerStage.get {α : Type} (p : PerStage α) (s : Stage) : α :=
  if s = 0 then p.s0 else if s = 1 then p.s1 else if s = 2 then p.s2 else p.s3

/-- The values with that of one stage replaced. -/
def PerStage.set {α : Type} (p : PerStage α) (s : Stage) (v : α) : PerStage α :=
  if s = 0 then { p with s0 := v } else if s = 1 then { p with s1 := v }
  else if s = 2 then { p with s2 := v } else { p with s3 := v }

/-- One value for each of the two zones. -/
structure PerZone (α : Type) where
  z0 : α
  z1 : α
  deriving DecidableEq, Repr

/-- The value of a zone. -/
def PerZone.get {α : Type} (p : PerZone α) (z : Zone) : α := if z = 0 then p.z0 else p.z1

/-- The values with that of one zone replaced. -/
def PerZone.set {α : Type} (p : PerZone α) (z : Zone) (v : α) : PerZone α :=
  if z = 0 then { p with z0 := v } else { p with z1 := v }

/-- One value for each of the two ports. -/
structure PerPort (α : Type) where
  u : α
  d : α
  deriving DecidableEq, Repr

/-- The value of a port. -/
def PerPort.get {α : Type} (p : PerPort α) (k : Port) : α :=
  match k with
  | .u => p.u
  | .d => p.d

/-- The values with that of one port replaced. -/
def PerPort.set {α : Type} (p : PerPort α) (k : Port) (v : α) : PerPort α :=
  match k with
  | .u => { p with u := v }
  | .d => { p with d := v }

/-! ## The Channel Table (Chapter 1) -/

/-- What a charge failure does to its target (R3, R57). -/
inductive FailPolicy where
  | lock
  | safe
  deriving DecidableEq, Repr

/-- A present precondition: the charge time in microseconds and the attempt limit (R3). -/
structure Precond where
  chargeTime : Nat
  attemptLimit : Nat
  deriving DecidableEq, Repr

/-- An entry of a copy of the Channel Table (R3). Times are in microseconds, the maximum on-time in milliseconds. -/
structure Entry where
  id : Chan
  partner : Option Chan
  deadTime : Nat
  minDwell : Nat
  maxOn : Option Nat
  zone : Option Zone
  precond : Option Precond
  policy : FailPolicy
  deriving DecidableEq, Repr

/-- The pass policy for unguarded settings (R4). -/
inductive PassPolicy where
  | closed
  | opened
  deriving DecidableEq, Repr

/-- The mode of a zone (R4, section 8.5). -/
inductive ZoneMode where
  | off
  | direct
  | toggle
  deriving DecidableEq, Repr

/-- A Settings Record (R4). Times are in milliseconds. -/
structure Settings where
  passPolicy : PassPolicy
  tmin : Nat
  tw : Nat
  grace : Nat
  failLimit : BitVec 4
  resetPulse : Nat
  reportTimeout : Nat
  zoneMode : PerZone ZoneMode
  zoneTimeout : PerZone Nat
  commitInRun : Bool
  deriving DecidableEq, Repr

/-- The power-on values of a Settings Record (R4). -/
def Settings.powerOn : Settings :=
  { passPolicy := .closed, tmin := 0, tw := 50, grace := 100, failLimit := 0, resetPulse := 10,
    reportTimeout := 0, zoneMode := ⟨.off, .off⟩, zoneTimeout := ⟨100, 100⟩, commitInRun := false }

/-! ## Channels, the Pending Queue and charge contexts (Chapters 2 and 3) -/

/-- The seven states of a guarded channel (R23). -/
inductive ChState where
  | off
  | wait
  | priming
  | on
  | onHold
  | lent
  | forced
  deriving DecidableEq, Repr

/-- The hold kinds (R41). -/
inductive HoldKind where
  | mode
  | safe
  | zone
  | stage
  | lock
  deriving DecidableEq, Repr

/-- A hold set: for each kind, whether it is in the set (R22). -/
structure Holds where
  mode : Bool
  safe : Bool
  zone : Bool
  stage : Bool
  lock : Bool
  deriving DecidableEq, Repr

/-- The hold set that holds nothing. -/
def Holds.none : Holds := ⟨false, false, false, false, false⟩

/-- Whether a kind is in the hold set. -/
def Holds.has (h : Holds) (k : HoldKind) : Bool :=
  match k with
  | .mode => h.mode
  | .safe => h.safe
  | .zone => h.zone
  | .stage => h.stage
  | .lock => h.lock

/-- The hold set with a kind put in (`true`) or taken out (`false`). -/
def Holds.put (h : Holds) (k : HoldKind) (b : Bool) : Holds :=
  match k with
  | .mode => { h with mode := b }
  | .safe => { h with safe := b }
  | .zone => { h with zone := b }
  | .stage => { h with stage := b }
  | .lock => { h with lock := b }

/-- Whether the hold set is empty. -/
def Holds.isEmpty (h : Holds) : Bool := !h.mode && !h.safe && !h.zone && !h.stage && !h.lock

/-- The runtime record of a guarded channel (R22). -/
structure ChanRec where
  id : Chan
  state : ChState
  holds : Holds
  requested : Level
  effective : Level
  lastOff : Option Time
  onTime : Option Time
  onTimer : Option Time
  deriving DecidableEq, Repr

/-- Why a pending entry waits (R25). -/
inductive Reason where
  | dead
  | partner
  | dwell
  deriving DecidableEq, Repr

/-- The target of an entry, which its reason fixes (R25). -/
def Reason.target : Reason → Level
  | .dead => .on
  | .partner => .on
  | .dwell => .off

/-- An entry of the Pending Queue (R25). `given` is the model's own: the number of the event at which the entry
received its due time, 0 while it has none (log entry 18). -/
structure PendEntry where
  chan : Chan
  reason : Reason
  due : Option Time
  given : Nat
  seq : Byte
  deriving DecidableEq, Repr

/-- The phases of a charge context (R49). -/
inductive Phase where
  | clearing
  | donorOn
  | charging
  | donorOff
  | settle
  deriving DecidableEq, Repr

/-- A charge context (R49). Times are in microseconds. -/
structure Ctx where
  target : Chan
  donor : Chan
  phase : Phase
  attempt : Nat
  chargeTime : Nat
  attemptLimit : Nat
  deadTime : Nat
  timer : Option Time
  deriving DecidableEq, Repr

/-! ## Command Intake (Chapter 4) -/

/-- The DRIVE sequence window (R72). -/
structure Window where
  synced : Bool
  last : Byte
  deriving DecidableEq, Repr

/-- The reasons of the last refusal record (R81). -/
inductive RefusalReason where
  | held
  | conflict
  | closed
  | mode
  deriving DecidableEq, Repr

/-- The last refusal record when it is not empty (R81). -/
structure RefusalRec where
  chan : Chan
  seq : Byte
  reason : RefusalReason
  deriving DecidableEq, Repr

/-- The names of the guard's seventeen 16-bit counts (R162). -/
inductive Counter where
  | uMalformed
  | duplicate
  | stale
  | gap
  | refusedMode
  | refusedClosed
  | refusedHeld
  | refusedConflict
  | pairConflict
  | auxDrop
  | superseded
  | recharge
  | dMalformed
  | reportDrop
  | mgmtDrop
  | uCrc
  | dCrc
  deriving DecidableEq, Repr

/-- The values of the counts (R162). -/
structure Counts where
  uMalformed : BitVec 16
  duplicate : BitVec 16
  stale : BitVec 16
  gap : BitVec 16
  refusedMode : BitVec 16
  refusedClosed : BitVec 16
  refusedHeld : BitVec 16
  refusedConflict : BitVec 16
  pairConflict : BitVec 16
  auxDrop : BitVec 16
  superseded : BitVec 16
  recharge : BitVec 16
  dMalformed : BitVec 16
  reportDrop : BitVec 16
  mgmtDrop : BitVec 16
  uCrc : BitVec 16
  dCrc : BitVec 16
  deriving DecidableEq, Repr

/-- Every count at 0 (R83, R162). -/
def Counts.zero : Counts := ⟨0, 0, 0, 0, 0, 0, 0, 0, 0, 0, 0, 0, 0, 0, 0, 0, 0⟩

/-! ## The Emit Queue and the D-port transmitter (Chapter 5) -/

/-- The class of a setting record (R86). -/
inductive EmitClass where
  | urgent
  | normal
  deriving DecidableEq, Repr

/-- A setting as a record lists it: an output and its level (R86). -/
structure OutSetting where
  output : Output
  level : Level
  deriving DecidableEq, Repr

/-- A setting record; with the quench flag set it is a quench record (R86). -/
structure SetRec where
  stage : Stage
  cls : EmitClass
  quench : Bool
  settings : List OutSetting
  age : Time
  order : Nat
  deriving DecidableEq, Repr

/-- An AUX record (R87). -/
structure AuxRec where
  stage : Stage
  payload : List Byte
  age : Time
  order : Nat
  deriving DecidableEq, Repr

/-- A record of the Emit Queue. -/
inductive EmitRec where
  | set (r : SetRec)
  | aux (r : AuxRec)
  deriving DecidableEq, Repr

/-- The D-port transmitter; in SENDING it holds the record in transmission and the downstream sequence
the record's frame carries (R92, R98). -/
inductive DTx where
  | idle
  | sending (r : EmitRec) (seq : Byte)
  | gap
  | silent
  deriving DecidableEq, Repr

/-- The Emit Queue with the D-port transmitter (R86, R92, R98). -/
structure EmitQueue where
  sets : List SetRec
  auxs : List AuxRec
  nextOrder : Nat
  closed : Bool
  dseq : Byte
  dtx : DTx
  deriving DecidableEq, Repr

/-- The Emit Queue with nothing waiting, at its power-on values (R102). -/
def EmitQueue.empty : EmitQueue :=
  { sets := [], auxs := [], nextOrder := 0, closed := false, dseq := 0, dtx := .idle }

/-! ## Frames, the Stage Monitor and the Upstream Queue (Chapters 6 and 11) -/

/-- The kinds of frame (R180). -/
inductive Kind where
  | drive
  | aux
  | tick
  | mgmt
  | resp
  | report
  | quench
  deriving DecidableEq, Repr

/-- A frame without its delimiter, length and check, which follow from the rest (R179). -/
structure Frame where
  kind : Kind
  addr : BitVec 4
  seq : Byte
  payload : List Byte
  deriving DecidableEq, Repr

/-- The presence of a stage (R103). -/
inductive Presence where
  | silent
  | present
  | lost
  deriving DecidableEq, Repr

/-- A stage record (R103). Its use is computed from the Active Copy. Bit n of the mask is output n. -/
structure StageRec where
  presence : Presence
  mask : BitVec 16
  fault : Bool
  timer : Option Time
  deriving DecidableEq, Repr

/-- A stage record after a device reset and a wake restart (R103). -/
def StageRec.initial : StageRec := ⟨.silent, 0, false, none⟩

/-- The U-port transmitter; in SENDING it holds the frame in transmission (R114). -/
inductive UTx where
  | idle
  | sending (f : Frame)
  | gap
  | silent
  deriving DecidableEq, Repr

/-! ## Modes and supervision (Chapters 7 and 8) -/

/-- The mode of the guard (R117). -/
inductive Mode where
  | config
  | run
  | safe
  | shutdown
  deriving DecidableEq, Repr

/-- The names of the safe causes (R117). -/
inductive Cause where
  | stream
  | command
  | charge
  deriving DecidableEq, Repr

/-- The safe cause set: for each cause, whether it is in the set (R117). -/
structure Causes where
  stream : Bool
  command : Bool
  charge : Bool
  deriving DecidableEq, Repr

/-- The empty safe cause set. -/
def Causes.none : Causes := ⟨false, false, false⟩

/-- Whether the safe cause set is empty. -/
def Causes.isEmpty (c : Causes) : Bool := !c.stream && !c.command && !c.charge

/-- Whether a cause is in the safe cause set. -/
def Causes.has (c : Causes) (k : Cause) : Bool :=
  match k with
  | .stream => c.stream
  | .command => c.command
  | .charge => c.charge

/-- The safe cause set with a cause put in (`true`) or taken out (`false`). -/
def Causes.put (c : Causes) (k : Cause) (b : Bool) : Causes :=
  match k with
  | .stream => { c with stream := b }
  | .command => { c with command := b }
  | .charge => { c with charge := b }

/-- The states of the Tick Monitor (R135). -/
inductive TickState where
  | off
  | openFirst
  | closed
  | opened
  | resetting
  | grace
  deriving DecidableEq, Repr

/-- The Tick Monitor (R135). -/
structure TickMonitor where
  state : TickState
  timer : Option Time
  fails : BitVec 4
  deriving DecidableEq, Repr

/-- The causes of a blocked zone (R147). -/
inductive BlockCause where
  | lineLow
  | notYet
  | timeout
  deriving DecidableEq, Repr

/-- The states of a Zone Monitor (R147). -/
inductive ZoneState where
  | inactive
  | released
  | blocked (cause : BlockCause)
  deriving DecidableEq, Repr

/-- A zone line with its recognition and its Zone Monitor (R146, R147): the level at the pin, the recognised level
(`true` is high), the time at which a measurement of a new level began, the monitor's state and its toggle timer. -/
structure ZoneUnit where
  line : Bool
  recognised : Bool
  measuring : Option Time
  state : ZoneState
  timer : Option Time
  deriving DecidableEq, Repr

/-! ## The Management Handler and the Fault Log (Chapters 9 and 10) -/

/-- The result codes of a response (R157). -/
inductive Result where
  | ok
  | busy
  | range
  | full
  | absent
  | invalid
  | live
  | mode
  | notReady
  | unknown
  | length
  deriving DecidableEq, Repr

/-- A management request: its tag, its name octet and its arguments (R154, R155). -/
structure Request where
  tag : Byte
  name : Byte
  args : List Byte
  deriving DecidableEq, Repr

/-- A response built and not yet placed: its result, its detail or data, and how many fault records its placing
removes from the log (R157, R168). -/
structure Response where
  result : Result
  body : List Byte
  taken : Nat
  deriving DecidableEq, Repr

/-- The state of the Management Handler with its current request (R154). Only a COMMIT stays in WORKING beyond
its event; `due` is when its validation completes (R160). -/
inductive Handler where
  | idle
  | working (req : Request) (due : Time)
  | replying (req : Request) (resp : Response)
  deriving DecidableEq, Repr

/-- The kinds of fault record with the fields each carries beside its time (R172). -/
inductive FaultKind where
  | streamEarly
  | streamLate
  | streamLimit
  | zoneTimeout (zone : Zone)
  | stageLost (stage : Stage)
  | stageFault (stage : Stage)
  | chargeFail (target : Chan) (attempts : Nat)
  | conflict (lower : Chan) (seq : Byte)
  | truncated (chan : Chan)
  deriving DecidableEq, Repr

/-- A fault record (R172). -/
structure FaultRec where
  time : Time
  kind : FaultKind
  deriving DecidableEq, Repr

/-! ## Receivers (Chapter 11) -/

/-- The state of a receiver with the octets of the frame in progress (R181): in HEADER those of the header read so
far, in BODY the three header octets and those read after them. -/
inductive Receiver where
  | hunt
  | header (got : List Byte)
  | body (h0 h1 h2 : Byte) (got : List Byte)
  | idleWait
  deriving DecidableEq, Repr

/-! ## The state -/

/-- The state of the guard. INVENTORY.md lists each field with the rule that names it. -/
structure State where
  /-- The commands that wait, first in first out. -/
  pending : List Instr
  /-- RSTn is asserted (R119). -/
  rstn : Bool
  /-- The supply lies below 3.0 V (R119). -/
  supplyLow : Bool
  /-- Guard time (section 0.6, R1). -/
  now : Time
  /-- The model's own: the number of events taken (log entry 18). -/
  eventNo : Nat
  /-- The mode (R117). -/
  mode : Mode
  /-- The safe cause set (R117). -/
  causes : Causes
  /-- The start-up hold: stopped, or its due time (R121). -/
  startupHold : Option Time
  /-- Microseconds since SHUTDOWN entry, while the mode is SHUTDOWN (R131, log entry 12). -/
  shutdownFor : Nat
  /-- The Staging Copy, in ascending channel id (R2). -/
  staging : List Entry
  /-- The Active Copy, in ascending channel id (R2). -/
  active : List Entry
  /-- The Staging Settings Record (R4). -/
  stagingSet : Settings
  /-- The Active Settings Record (R4). -/
  activeSet : Settings
  /-- The committed flag (R2). -/
  committed : Bool
  /-- The runtime records, in ascending channel id (R22). -/
  chans : List ChanRec
  /-- The Pending Queue, in its order (R25). -/
  pendQ : List PendEntry
  /-- The open charge contexts, in ascending target (R49). -/
  ctxs : List Ctx
  /-- The DRIVE sequence window (R72). -/
  window : Window
  /-- The last refusal record; `none` is empty (R81). -/
  lastRefusal : Option RefusalRec
  /-- The counts (R162). -/
  counts : Counts
  /-- The Emit Queue and the D-port transmitter (R86, R92). -/
  emit : EmitQueue
  /-- The four stage records (R103). -/
  stages : PerStage StageRec
  /-- The Upstream Queue, head first (R113). -/
  upQ : List Frame
  /-- The U-port transmitter (R114). -/
  utx : UTx
  /-- The Tick Monitor (R135). -/
  tick : TickMonitor
  /-- The two zone lines and Zone Monitors (R146, R147). -/
  zones : PerZone ZoneUnit
  /-- The Management Handler (R154). -/
  handler : Handler
  /-- The Fault Log, oldest first (R171). -/
  log : List FaultRec
  /-- The Fault Log's overflow count (R171). -/
  overflow : BitVec 8
  /-- The two receivers (R181). -/
  rx : PerPort Receiver
  deriving DecidableEq, Repr

/-- Every piece of state at its power-on value, before the Mode Controller acts at the release (R120). -/
def State.powerOn : State :=
  { pending := []
    rstn := false
    supplyLow := false
    now := 0
    eventNo := 0
    mode := .config
    causes := Causes.none
    startupHold := none
    shutdownFor := 0
    staging := []
    active := []
    stagingSet := Settings.powerOn
    activeSet := Settings.powerOn
    committed := false
    chans := []
    pendQ := []
    ctxs := []
    window := ⟨false, 0⟩
    lastRefusal := none
    counts := Counts.zero
    emit := EmitQueue.empty
    stages := ⟨StageRec.initial, StageRec.initial, StageRec.initial, StageRec.initial⟩
    upQ := []
    utx := .idle
    tick := ⟨.off, none, 0⟩
    zones := ⟨⟨false, false, none, .inactive, none⟩, ⟨false, false, none, .inactive, none⟩⟩
    handler := .idle
    log := []
    overflow := 0
    rx := ⟨.hunt, .hunt⟩ }

/-- The quench record of a stage that the release of a device reset creates (R102, R120). -/
def SetRec.atRelease (s : Stage) : SetRec :=
  { stage := s, cls := .urgent, quench := true, settings := [], age := 0, order := s.val }

/-- The machine right after reset (R120): power-on values, the start-up hold running for 10 ms from guard time 0, and
a quench record waiting for each of the stages 0 to 3, in that order. -/
def State.reset : State :=
  { State.powerOn with
    startupHold := some 10000
    emit := { EmitQueue.empty with
      sets := [SetRec.atRelease 0, SetRec.atRelease 1, SetRec.atRelease 2, SetRec.atRelease 3]
      nextOrder := 4 } }

/-! ## Reasons to stop -/

/-- The reasons for a fault. There is none: the part never stops, every command has an effect on State (log entry 29). -/
inductive Fault where
  deriving DecidableEq, Repr

/-- The reasons for a refusal. -/
inductive Refusal where
  /-- Raised by `exec` alone, for a command whose meaning is not written yet; safe, since the machine stops. No arm raises it. -/
  | notModelled (mnemonic : String)
  deriving DecidableEq, Repr

end Sys2Proof.Machine
end

