-- ==== Sys2Proof/Machine/Time.lean ====
section
/-! DEFINITION. Guard times and durations (R1), and counts that saturate. -/

namespace Sys2Proof.Machine

/-- The microseconds that have passed since `t1` at `t2` (R1). -/
def elapsed (t1 t2 : Time) : Nat := (t2 - t1).toNat

/-- `t1` is at or before `t2` (R1). -/
def atOrBefore (t1 t2 : Time) : Bool := decide (elapsed t1 t2 < 2 ^ 31)

/-- `t1` is before `t2` (R1). -/
def isBefore (t1 t2 : Time) : Bool := atOrBefore t1 t2 && t1 != t2

/-- At `now`, the duration `d` (in microseconds) has passed since `t` (R1). -/
def hasPassed (t : Time) (d : Nat) (now : Time) : Bool := decide (d ≤ elapsed t now)

/-- The due time `due` is reached by an event at `now`: `now` is not before it (R1). -/
def reached (due now : Time) : Bool := !isBefore now due

/-- The due time that lies `d` microseconds after `t`. -/
def after (t : Time) (d : Nat) : Time := t + BitVec.ofNat 32 d

/-- Milliseconds in microseconds of guard time (R3, R135). -/
def ms (d : Nat) : Nat := d * 1000

/-- A timer (`none` is stopped) runs and its due time is reached at `now`. -/
def timerDue (timer : Option Time) (now : Time) : Bool :=
  match timer with
  | none => false
  | some due => reached due now

/-- A 16-bit count increased by `n`, saturating at its largest value (R83). -/
def satAdd (x : BitVec 16) (n : Nat) : BitVec 16 :=
  if x.toNat + n ≤ 65535 then BitVec.ofNat 16 (x.toNat + n) else 65535

end Sys2Proof.Machine
end

