-- ==== Sys2Proof/Machine/Operands.lean ====
section
/-! DEFINITION. The layouts that cross a port (Chapter 11): setting octets, REPORT payloads, table entries, Settings Records, fault records, frames and their check. -/

namespace Sys2Proof.Machine

/-! ## Numbers of several octets, high octet first (section 11.5) -/

/-- The number two octets carry, high octet first. -/
def nat16 (hi lo : Byte) : Nat := hi.toNat * 256 + lo.toNat

/-- A number as one octet. -/
def octet (n : Nat) : Byte := BitVec.ofNat 8 n

/-- A number as two octets, high octet first. -/
def octets16 (n : Nat) : List Byte := [octet (n / 256), octet n]

/-- A guard time as four octets, high octet first. -/
def octets32 (t : Time) : List Byte :=
  [octet (t.toNat / 16777216), octet (t.toNat / 65536), octet (t.toNat / 256), octet t.toNat]

/-- A guard time that may be absent, sent as 0 when it is (R190, R191). -/
def octetsTime (t : Option Time) : List Byte := octets32 (t.getD 0)

/-- A bit as a number. -/
def bit (b : Bool) : Nat := if b then 1 else 0

/-! ## DRIVE and REPORT payloads (R185) -/

/-- The output index of a setting octet: bits 3 to 0. -/
def settingOutput (b : Byte) : Output := (b.extractLsb' 0 4).toFin

/-- The level of a setting octet: bit 7. -/
def settingLevel (b : Byte) : Level := if b.getLsbD 7 then .on else .off

/-- The unused bits 6 to 4 of a setting octet are zero. -/
def settingUnusedZero (b : Byte) : Bool := b.extractLsb' 4 3 == 0

/-- The setting octet of an output and a level. -/
def settingOctet (s : OutSetting) : Byte :=
  octet ((if s.level = .on then 128 else 0) + s.output.val)

/-- The ready mask of a REPORT payload: octet 1 holds outputs 8 to 15, octet 2 outputs 0 to 7. -/
def reportMask (b1 b2 : Byte) : BitVec 16 := b1 ++ b2

/-- The fault flag of a REPORT status octet: bit 0. -/
def reportFault (b3 : Byte) : Bool := b3.getLsbD 0

/-- The stage an address names, if it names one (R70, R82, R105). -/
def stageOf (addr : BitVec 4) : Option Stage :=
  if h : addr.toNat < 4 then some ⟨addr.toNat, h⟩ else none

/-! ## The table entry (R186) -/

/-- A channel id octet; above 63 it is out of range. -/
def decodeChan (b : Byte) : Option Chan :=
  if h : b.toNat < 64 then some ⟨b.toNat, h⟩ else none

/-- A partner octet: 0xFF is absent, 64 to 254 out of range. -/
def decodePartner (b : Byte) : Option (Option Chan) :=
  if b = 255 then some none else (decodeChan b).map some

/-- A number that must lie between two bounds. -/
def decodeRange (lo hi n : Nat) : Option Nat := if lo ≤ n ∧ n ≤ hi then some n else none

/-- A maximum on-time: 0 is absent, above 60 000 out of range. -/
def decodeMaxOn (n : Nat) : Option (Option Nat) :=
  if n = 0 then some none else (decodeRange 1 60000 n).map some

/-- A zone octet: 0 none, 1 zone 0, 2 zone 1. -/
def decodeZone (b : Byte) : Option (Option Zone) :=
  if b = 0 then some none else if b = 1 then some (some 0) else if b = 2 then some (some 1) else none

/-- A charge time octet (units of 10 µs, 0 absent) with its attempt limit octet. -/
def decodePrecond (charge limit : Byte) : Option (Option Precond) :=
  if charge = 0 then (if limit = 0 then some none else none)
  else if charge.toNat ≤ 200 ∧ 1 ≤ limit.toNat ∧ limit.toNat ≤ 7 then
    some (some ⟨charge.toNat * 10, limit.toNat⟩)
  else none

/-- A charge-fail policy octet. -/
def decodePolicy (b : Byte) : Option FailPolicy :=
  if b = 0 then some .lock else if b = 1 then some .safe else none

/-- The table entry twelve octets carry, or none when a field is out of its range (R6, R186). -/
def decodeEntry (bs : List Byte) : Option Entry :=
  match bs with
  | [b1, b2, b3, b4, b5, b6, b7, b8, b9, b10, b11, b12] =>
    (decodeChan b1).bind fun id =>
    (decodePartner b2).bind fun partner =>
    (decodeRange 0 1023 (nat16 b3 b4)).bind fun deadTime =>
    (decodeRange 0 50000 (nat16 b5 b6)).bind fun minDwell =>
    (decodeMaxOn (nat16 b7 b8)).bind fun maxOn =>
    (decodeZone b9).bind fun zone =>
    (decodePrecond b10 b11).bind fun precond =>
    (decodePolicy b12).map fun policy =>
      { id, partner, deadTime, minDwell, maxOn, zone, precond, policy }
  | _ => none

/-- The zone octet of an entry. -/
def zoneOctet (z : Option Zone) : Byte :=
  match z with
  | none => 0
  | some z => octet (z.val + 1)

/-- The charge-fail policy octet of an entry. -/
def policyOctet (p : FailPolicy) : Byte :=
  match p with
  | .lock => 0
  | .safe => 1

/-- The charge time octet (units of 10 µs) and the attempt limit octet of a precondition. -/
def precondOctets (p : Option Precond) : List Byte :=
  match p with
  | none => [0, 0]
  | some p => [octet (p.chargeTime / 10), octet p.attemptLimit]

/-- A channel id octet, 0xFF when absent. -/
def chanOctet (c : Option Chan) : Byte :=
  match c with
  | none => 255
  | some c => octet c.val

/-- The twelve octets of a table entry (R186). -/
def encodeEntry (e : Entry) : List Byte :=
  [octet e.id.val, chanOctet e.partner] ++ octets16 e.deadTime ++ octets16 e.minDwell ++
    octets16 (e.maxOn.getD 0) ++ [zoneOctet e.zone] ++ precondOctets e.precond ++ [policyOctet e.policy]

/-! ## The Settings Record (R187) -/

/-- A pass policy octet. -/
def decodePass (b : Byte) : Option PassPolicy :=
  if b = 0 then some .closed else if b = 1 then some .opened else none

/-- A zone mode octet. -/
def decodeZoneMode (b : Byte) : Option ZoneMode :=
  if b = 0 then some .off else if b = 1 then some .direct else if b = 2 then some .toggle else none

/-- A NO or YES octet. -/
def decodeYes (b : Byte) : Option Bool :=
  if b = 0 then some false else if b = 1 then some true else none

/-- The Settings Record twelve octets carry, or none when a field is out of its range (R8, R187). -/
def decodeSettings (bs : List Byte) : Option Settings :=
  match bs with
  | [b1, b2, b3, b4, b5, b6, b7, b8, b9, b10, b11, b12] =>
    (decodePass b1).bind fun passPolicy =>
    (decodeRange 0 250 b2.toNat).bind fun tmin =>
    (decodeRange 1 250 b3.toNat).bind fun tw =>
    (decodeRange 1 255 b4.toNat).bind fun grace =>
    (decodeRange 0 15 b5.toNat).bind fun failLimit =>
    (decodeRange 0 250 b6.toNat).bind fun resetPulse =>
    (decodeRange 0 250 b7.toNat).bind fun reportTimeout =>
    (decodeZoneMode b8).bind fun mode0 =>
    (decodeZoneMode b9).bind fun mode1 =>
    (decodeRange 1 250 b10.toNat).bind fun timeout0 =>
    (decodeRange 1 250 b11.toNat).bind fun timeout1 =>
    (decodeYes b12).map fun commitInRun =>
      { passPolicy, tmin, tw, grace := grace * 10, failLimit := BitVec.ofNat 4 failLimit, resetPulse,
        reportTimeout, zoneMode := ⟨mode0, mode1⟩, zoneTimeout := ⟨timeout0, timeout1⟩, commitInRun }
  | _ => none

/-- The zone mode octet. -/
def zoneModeOctet (m : ZoneMode) : Byte :=
  match m with
  | .off => 0
  | .direct => 1
  | .toggle => 2

/-- The pass policy octet. -/
def passOctet (p : PassPolicy) : Byte :=
  match p with
  | .closed => 0
  | .opened => 1

/-- The twelve octets of a Settings Record (R187). -/
def encodeSettings (r : Settings) : List Byte :=
  [passOctet r.passPolicy, octet r.tmin, octet r.tw, octet (r.grace / 10), octet r.failLimit.toNat,
    octet r.resetPulse, octet r.reportTimeout, zoneModeOctet r.zoneMode.z0, zoneModeOctet r.zoneMode.z1,
    octet r.zoneTimeout.z0, octet r.zoneTimeout.z1, octet (bit r.commitInRun)]

/-! ## Fault records (R172, R188) -/

/-- The kind octet of a fault record. -/
def faultCode (k : FaultKind) : Byte :=
  match k with
  | .streamEarly => 1
  | .streamLate => 2
  | .streamLimit => 3
  | .zoneTimeout _ => 4
  | .stageLost _ => 5
  | .stageFault _ => 6
  | .chargeFail _ _ => 7
  | .conflict _ _ => 8
  | .truncated _ => 9

/-- The channel a fault record names, if its kind carries one (R172). -/
def faultChan (k : FaultKind) : Option Chan :=
  match k with
  | .chargeFail c _ => some c
  | .conflict c _ => some c
  | .truncated c => some c
  | _ => none

/-- The stage a fault record names, if its kind carries one: that of its channel where it names a channel (R172). -/
def faultStage (k : FaultKind) : Option Stage :=
  match k with
  | .stageLost s => some s
  | .stageFault s => some s
  | _ => (faultChan k).map Chan.stage

/-- The zone a fault record names, if its kind carries one (R172). -/
def faultZone (k : FaultKind) : Option Zone :=
  match k with
  | .zoneTimeout z => some z
  | _ => none

/-- The last octet of a fault record: a CONFLICT's sequence, a CHARGE_FAIL's attempts, 0 otherwise (R188). -/
def faultTail (k : FaultKind) : Byte :=
  match k with
  | .chargeFail _ n => octet n
  | .conflict _ s => s
  | _ => 0

/-- The eight octets of a fault record (R188). -/
def faultOctets (r : FaultRec) : List Byte :=
  [faultCode r.kind] ++ octets32 r.time ++
    [chanOctet (faultChan r.kind),
      octet (((faultStage r.kind).map Fin.val).getD 15 * 16 + ((faultZone r.kind).map Fin.val).getD 15),
      faultTail r.kind]

/-! ## Frames (R179, R180) -/

/-- The kind code of a frame kind (R180). -/
def kindCode (k : Kind) : BitVec 4 :=
  match k with
  | .drive => 1
  | .aux => 2
  | .tick => 3
  | .mgmt => 4
  | .resp => 5
  | .report => 6
  | .quench => 7

/-- The kind a code names, if it names one (R180). -/
def kindOf (code : BitVec 4) : Option Kind :=
  if code = 1 then some .drive else if code = 2 then some .aux else if code = 3 then some .tick
  else if code = 4 then some .mgmt else if code = 5 then some .resp else if code = 6 then some .report
  else if code = 7 then some .quench else none

/-- Whether a port receives frames of a kind (R180). -/
def receivedAt (p : Port) (k : Kind) : Bool :=
  match p, k with
  | .u, .drive => true
  | .u, .aux => true
  | .u, .tick => true
  | .u, .mgmt => true
  | .d, .report => true
  | _, _ => false

/-- One bit of the check: the register shifted by one place, with the generator 0x1021 where a one leaves it (R179). -/
def crcShift (r : BitVec 16) : BitVec 16 :=
  if r.getLsbD 15 then (r <<< 1) ^^^ 0x1021 else r <<< 1

/-- One octet fed into the check register, most significant bit first (R179). -/
def crcOctet (r : BitVec 16) (b : Byte) : BitVec 16 :=
  let r := r ^^^ (b.setWidth 16 <<< 8)
  crcShift (crcShift (crcShift (crcShift (crcShift (crcShift (crcShift (crcShift r)))))))

/-- The check of a list of octets: a CRC-16 that starts at 0xFFFF (R179). -/
def crc (bs : List Byte) : BitVec 16 := bs.foldl crcOctet 0xFFFF

/-- Header 0 of a frame: kind in bits 7 to 4, address in bits 3 to 0 (R179). -/
def header0 (k : Kind) (addr : BitVec 4) : Byte := kindCode k ++ addr

/-- The octets of a frame the check is taken over: the header and the payload (R179). -/
def Frame.checked (f : Frame) : List Byte :=
  header0 f.kind f.addr :: f.seq :: octet f.payload.length :: f.payload

/-- The octets of a frame on its line: delimiter, header, payload and check, high octet first (R179, R184). -/
def Frame.octets (f : Frame) : List Byte :=
  0xA5 :: (f.checked ++ octets16 (crc f.checked).toNat)

/-! ## Octets on a line (R178)

A level is `true` when the line is high. The levels of an octet stand in their order, one for each bit time. -/

/-- The level of an idle line: high (R178). -/
def idleLevel : Bool := true

/-- The ten levels of an octet on its line: a start bit, low; the eight data bits, the least significant first; a stop
bit, high (R178). -/
def octetLevels (b : Byte) : List Bool := false :: ((List.range 8).map fun n => b.getLsbD n) ++ [true]

/-- The number that data bits carry, the least significant first (R178). -/
def bitsNumber (bits : List Bool) : Nat := bits.foldr (fun b n => bit b + 2 * n) 0

/-- What a receiver reads from the ten levels it samples from a falling edge on, the start bit first: the octet of the
eight data bits, or none, a framing fault, when the stop bit is sampled low (R178). -/
def readLevels (levels : List Bool) : Option Byte :=
  if levels.getD 9 false then some (octet (bitsNumber ((levels.drop 1).take 8))) else none

/-- The levels of a frame on its line: its octets back to back, with no idle between them (R178). -/
def Frame.levels (f : Frame) : List Bool := f.octets.flatMap octetLevels

/-- The frame the D-port sends for a record with a downstream sequence (R95, R96, R97, R184). -/
def recordFrame (r : EmitRec) (seq : Byte) : Frame :=
  match r with
  | .set r =>
    if r.quench then ⟨.quench, BitVec.ofNat 4 r.stage.val, seq, []⟩
    else ⟨.drive, BitVec.ofNat 4 r.stage.val, seq, r.settings.map settingOctet⟩
  | .aux r => ⟨.aux, BitVec.ofNat 4 r.stage.val, seq, r.payload⟩

end Sys2Proof.Machine
end

