-- ==== Sys2Proof/Machine/Flags.lean ====
section
/-! DEFINITION. The lines CTLRST and ALERT, the lines UTX and DTX, the status summary and the use of a stage: what is computed from State and never stored twice. -/

namespace Sys2Proof.Machine

/-- The guard is in device reset while RSTn is asserted or the supply lies below 3.0 V (R119). -/
def State.inReset (s : State) : Bool := s.rstn || s.supplyLow

/-- The ALERT line is asserted (R133). -/
def State.alert (s : State) : Bool :=
  !s.inReset && (s.mode == .safe || s.mode == .shutdown || !s.log.isEmpty)

/-- The CTLRST line is asserted (R121). -/
def State.ctlrst (s : State) : Bool :=
  s.inReset || s.startupHold.isSome || s.tick.state == .resetting || s.mode == .shutdown

/-- The use of a stage: USED while at least one active entry names a channel of it (R5, R103). -/
def State.used (s : State) (st : Stage) : Bool := s.active.any fun e => Chan.stage e.id == st

/-- The frame in transmission at the D-port, if there is one (R95 to R97, R184). -/
def State.dFrame (s : State) : Option Frame :=
  match s.emit.dtx with
  | .sending r seq => some (recordFrame r seq)
  | _ => none

/-- The frame in transmission at the U-port, if there is one (R114, R184). -/
def State.uFrame (s : State) : Option Frame :=
  match s.utx with
  | .sending f => some f
  | _ => none

/-- The levels a transmitter puts on its line: those of the frame in transmission, one for each bit time, or the level of
the idle line while there is none (R178). -/
def lineLevels (f : Option Frame) : List Bool :=
  match f with
  | some f => f.levels
  | none => [idleLevel]

/-- The levels of the line DTX (R178). -/
def State.dtxLevels (s : State) : List Bool := lineLevels s.dFrame

/-- The levels of the line UTX (R178). -/
def State.utxLevels (s : State) : List Bool := lineLevels s.uFrame

/-- The mode's code in the status summary (R189); SHUTDOWN has none, since no response is placed there. -/
def modeCode (m : Mode) : Nat :=
  match m with
  | .config => 0
  | .run => 1
  | .safe => 2
  | .shutdown => 3

/-- The status summary octet (R189). -/
def State.summary (s : State) : Byte :=
  octet (bit s.committed * 16 + bit (!s.log.isEmpty) * 8 + bit s.alert * 4 + modeCode s.mode)

end Sys2Proof.Machine
end

