-- ==== Sys2Proof/Machine/Ops.lean ====
section
/-! DEFINITION. The shared operations: events, counts, fault records, runtime records, the Pending Queue, the Emit Queue (placing, quenching, its answers), holds, safe causes, quenches and the Upstream Queue. -/

namespace Sys2Proof.Machine

/-! ## Events -/

/-- The guard time and the model's event number after `dt` microseconds (R1, log entries 1 and 18); in SHUTDOWN the
time since its entry runs on too (R131). -/
def State.advance (dt : Nat) (s : State) : State :=
  { s with
    now := after s.now dt
    eventNo := s.eventNo + 1
    shutdownFor := if s.mode = .shutdown then s.shutdownFor + dt else s.shutdownFor }

/-- One event outside device reset: `dt` microseconds pass, then the event has its effect. During device reset the
guard takes nothing (R119). -/
def event (dt : Nat) (effect : State → State) (s : State) : Host.Outcome State Fault Refusal :=
  if s.inReset then .next s else .next (effect (s.advance dt))

/-! ## Counts (R83, R162) -/

/-- The counts with one of them increased, saturating at its largest value (R83, R162). -/
def Counts.bump (c : Counts) (k : Counter) (n : Nat) : Counts :=
  match k with
  | .uMalformed => { c with uMalformed := satAdd c.uMalformed n }
  | .duplicate => { c with duplicate := satAdd c.duplicate n }
  | .stale => { c with stale := satAdd c.stale n }
  | .gap => { c with gap := satAdd c.gap n }
  | .refusedMode => { c with refusedMode := satAdd c.refusedMode n }
  | .refusedClosed => { c with refusedClosed := satAdd c.refusedClosed n }
  | .refusedHeld => { c with refusedHeld := satAdd c.refusedHeld n }
  | .refusedConflict => { c with refusedConflict := satAdd c.refusedConflict n }
  | .pairConflict => { c with pairConflict := satAdd c.pairConflict n }
  | .auxDrop => { c with auxDrop := satAdd c.auxDrop n }
  | .superseded => { c with superseded := satAdd c.superseded n }
  | .recharge => { c with recharge := satAdd c.recharge n }
  | .dMalformed => { c with dMalformed := satAdd c.dMalformed n }
  | .reportDrop => { c with reportDrop := satAdd c.reportDrop n }
  | .mgmtDrop => { c with mgmtDrop := satAdd c.mgmtDrop n }
  | .uCrc => { c with uCrc := satAdd c.uCrc n }
  | .dCrc => { c with dCrc := satAdd c.dCrc n }

/-- A count of the guard increased by `n`. -/
def count (k : Counter) (n : Nat) (s : State) : State := { s with counts := s.counts.bump k n }

/-- The malformed count of a port (R83, R105). -/
def malformedCounter (p : Port) : Counter :=
  match p with
  | .u => .uMalformed
  | .d => .dMalformed

/-- The CRC count of a port (R182). -/
def crcCounter (p : Port) : Counter :=
  match p with
  | .u => .uCrc
  | .d => .dCrc

/-! ## Fault records (R173) -/

/-- An 8-bit count increased by 1, saturating at 255 (R171). -/
def satInc8 (x : BitVec 8) : BitVec 8 := if x = 255 then 255 else x + 1

/-- The making of a fault record: it joins the tail of the log, or is discarded into the overflow count when the log
is full (R173). -/
def makeRecord (k : FaultKind) (s : State) : State :=
  if s.log.length < Config.logCapacity then { s with log := s.log ++ [⟨s.now, k⟩] }
  else { s with overflow := satInc8 s.overflow }

/-! ## Table entries and runtime records -/

/-- The entry of a channel id in a copy of the Channel Table (R2). -/
def findEntry (c : Chan) (copy : List Entry) : Option Entry := copy.find? fun e => e.id == c

/-- The active entry of a channel, if it is guarded. -/
def State.entry (s : State) (c : Chan) : Option Entry := findEntry c s.active

/-- The partner of a guarded channel (R3). -/
def State.partner (s : State) (c : Chan) : Option Chan := (s.entry c).bind Entry.partner

/-- The runtime record of a channel (R22). -/
def State.chan (s : State) (c : Chan) : Option ChanRec := s.chans.find? fun r => r.id == c

/-- The state with the runtime record of a channel changed. -/
def modChan (c : Chan) (f : ChanRec → ChanRec) (s : State) : State :=
  { s with chans := s.chans.map fun r => if r.id = c then f r else r }

/-- The guarded channels, in ascending channel id. -/
def State.guarded (s : State) : List Chan := s.chans.map ChanRec.id

/-- The guarded channels of a stage, in ascending channel id. -/
def State.guardedOn (s : State) (st : Stage) : List Chan := s.guarded.filter fun c => Chan.stage c == st

/-- The guarded channels whose active entry names a zone, in ascending channel id (R151). -/
def State.guardedIn (s : State) (z : Zone) : List Chan :=
  s.guarded.filter fun c => (s.entry c).any fun e => e.zone == some z

/-! ## The Pending Queue (R25) -/

/-- The pending entry of a channel (R25). -/
def State.pend (s : State) (c : Chan) : Option PendEntry := s.pendQ.find? fun e => e.chan == c

/-- The Pending Queue without the entry of a channel. -/
def removePend (c : Chan) (s : State) : State := { s with pendQ := s.pendQ.filter fun e => e.chan != c }

/-- A dated entry `e` that has just received its due time stands before a dated entry `x` due at `d`: it is due
earlier, or both received equal due times at one event and `e` has the lower channel id (R25). -/
def standsBefore (e : PendEntry) (due : Time) (x : PendEntry) (d : Time) : Bool :=
  isBefore due d || (due == d && x.given == e.given && decide (e.chan < x.chan))

/-- A dated entry put into its place in the dated part of the queue (R25). -/
def insertDated (e : PendEntry) (due : Time) (q : List PendEntry) : List PendEntry :=
  match q with
  | [] => [e]
  | x :: rest =>
    match x.due with
    | none => e :: x :: rest
    | some d => if standsBefore e due x d then e :: x :: rest else x :: insertDated e due rest

/-- Files an entry with a due time (R25). -/
def fileDated (c : Chan) (r : Reason) (due : Time) (seq : Byte) (s : State) : State :=
  { s with pendQ := insertDated ⟨c, r, some due, s.eventNo, seq⟩ due s.pendQ }

/-- Files an entry without a due time, at the end of the undated part (R25). -/
def fileUndated (c : Chan) (r : Reason) (seq : Byte) (s : State) : State :=
  { s with pendQ := s.pendQ ++ [⟨c, r, none, 0, seq⟩] }

/-! ## The Emit Queue: placing (R88, R90) -/

/-- A waiting record after every setting for an output of a stage is taken from it; none when that leaves it with an
empty list and a clear quench flag (R88 action 1). -/
def stripOutput (st : Stage) (o : Output) (r : SetRec) : Option SetRec :=
  if r.stage = st ∧ r.settings.any (fun x => x.output == o) then
    let left := r.settings.filter fun x => x.output != o
    if left.isEmpty ∧ ¬ r.quench then none else some { r with settings := left }
  else some r

/-- Whether a waiting record is the one of a stage and class. -/
def SetRec.isOf (r : SetRec) (st : Stage) (k : EmitClass) : Bool := r.stage == st && r.cls == k

/-- A setting added at the end of the list of the waiting record of its stage and class, the first there is. -/
def joinRecord (st : Stage) (k : EmitClass) (x : OutSetting) (rs : List SetRec) : List SetRec :=
  match rs with
  | [] => []
  | r :: rest =>
    if r.isOf st k then { r with settings := r.settings ++ [x] } :: rest
    else r :: joinRecord st k x rest

/-- The Emit Queue after a setting for channel `c` is placed in class `k` at `now` (R88); nothing is stored while
the closed flag is set (R100). -/
def EmitQueue.place (q : EmitQueue) (now : Time) (c : Chan) (v : Level) (k : EmitClass) : EmitQueue :=
  if q.closed then q
  else
    let left := q.sets.filterMap (stripOutput (Chan.stage c) (Chan.output c))
    let x : OutSetting := ⟨Chan.output c, v⟩
    if left.any (fun r => r.isOf (Chan.stage c) k) then
      { q with sets := joinRecord (Chan.stage c) k x left }
    else
      { q with
        sets := left ++ [⟨Chan.stage c, k, false, [x], now, q.nextOrder⟩]
        nextOrder := q.nextOrder + 1 }

/-- A waiting record after a quench of a stage strips it: a NORMAL record of the stage is dropped, an URGENT one is
kept with its age, an empty list and the quench flag set (R90). -/
def stripStage (st : Stage) (r : SetRec) : Option SetRec :=
  if r.stage = st then
    match r.cls with
    | .normal => none
    | .urgent => some { r with settings := [], quench := true }
  else some r

/-- The Emit Queue after a quench of a stage is placed at `now` (R90); nothing is stored while the closed flag is
set (R100). -/
def EmitQueue.quenchStage (q : EmitQueue) (now : Time) (st : Stage) : EmitQueue :=
  if q.closed then q
  else
    let left := q.sets.filterMap (stripStage st)
    if left.any (fun r => r.isOf st .urgent) then { q with sets := left }
    else
      { q with
        sets := left ++ [⟨st, .urgent, true, [], now, q.nextOrder⟩]
        nextOrder := q.nextOrder + 1 }

/-- Places a setting (R88). -/
def place (c : Chan) (v : Level) (k : EmitClass) (s : State) : State :=
  { s with emit := s.emit.place s.now c v k }

/-- Places a quench for the stages 0, 1, 2 and 3, in that order (R90). -/
def quenchAll (s : State) : State :=
  { s with emit := Config.allStages.foldl (fun q st => q.quenchStage s.now st) s.emit }

/-! ## The Emit Queue: its answers (R91) -/

/-- A record's settings list holds a setting. -/
def SetRec.holds (r : SetRec) (c : Chan) (v : Level) : Bool :=
  r.stage == Chan.stage c && r.settings.any fun x => x == ⟨Chan.output c, v⟩

/-- A record of the channel's stage tells it ON: it holds (c, ON) and is no quench record. -/
def SetRec.tellsOn (r : SetRec) (c : Chan) : Bool := !r.quench && r.holds c .on

/-- A record of the channel's stage tells it OFF: it holds (c, OFF) or is a quench record of the stage. -/
def SetRec.tellsOff (r : SetRec) (c : Chan) : Bool :=
  r.holds c .off || (r.quench && r.stage == Chan.stage c)

/-- The setting record in transmission, if there is one. -/
def EmitQueue.inTransmission (q : EmitQueue) : Option SetRec :=
  match q.dtx with
  | .sending (.set r) _ => some r
  | _ => none

/-- An ON for the channel is waiting (R91). -/
def State.onWaiting (s : State) (c : Chan) : Bool := s.emit.sets.any fun r => r.tellsOn c

/-- An ON for the channel is in transmission (R91). -/
def State.onSending (s : State) (c : Chan) : Bool := s.emit.inTransmission.any fun r => r.tellsOn c

/-- An OFF for the channel is waiting (R91). -/
def State.offWaiting (s : State) (c : Chan) : Bool := s.emit.sets.any fun r => r.tellsOff c

/-- An OFF for the channel is in transmission (R91). -/
def State.offSending (s : State) (c : Chan) : Bool := s.emit.inTransmission.any fun r => r.tellsOff c

/-- The channel's effective level is ON (R22). -/
def State.effectiveOn (s : State) (c : Chan) : Bool := (s.chan c).any fun r => r.effective == .on

/-- A guarded channel is live: effectively ON, or an ON for it waits or is in transmission (R91). -/
def State.live (s : State) (c : Chan) : Bool := s.effectiveOn c || s.onWaiting c || s.onSending c

/-- An OFF for the channel is waiting or in transmission (R91). -/
def State.offOnItsWay (s : State) (c : Chan) : Bool := s.offWaiting c || s.offSending c

/-! ## Holds (R41 to R44) -/

/-- Closes the charge contexts a channel belongs to, as target or as donor (R42 step 2, R64). -/
def closeCtxOf (c : Chan) (s : State) : State :=
  { s with ctxs := s.ctxs.filter fun x => x.target != c && x.donor != c }

/-- Steps 1 to 4 of R42 for a channel whose hold set is empty: its entry, context and on-timer end, and a live channel
gets an OFF placed URGENT. -/
def forceOff (c : Chan) (s : State) : State :=
  let s := modChan c (fun r => { r with onTimer := none }) (closeCtxOf c (removePend c s))
  if s.live c then place c .off .urgent s else s

/-- A hold is added to a guarded channel (R42, R43). -/
def addHold (k : HoldKind) (c : Chan) (s : State) : State :=
  match s.chan c with
  | none => s
  | some r =>
    if r.holds.isEmpty then
      modChan c (fun r => { r with requested := .off, holds := r.holds.put k true, state := .forced })
        (forceOff c s)
    else modChan c (fun r => { r with holds := r.holds.put k true }) s

/-- A runtime record after a hold is removed from it (R43, R44). -/
def ChanRec.release (k : HoldKind) (r : ChanRec) : ChanRec :=
  if r.holds.has k then
    if (r.holds.put k false).isEmpty then
      { r with holds := r.holds.put k false, state := .off, requested := .off }
    else { r with holds := r.holds.put k false }
  else r

/-- A hold is removed from a guarded channel (R43, R44). -/
def removeHold (k : HoldKind) (c : Chan) (s : State) : State := modChan c (ChanRec.release k) s

/-- One hold change that adds a hold to many channels, in the order given (R41). -/
def addHolds (k : HoldKind) (cs : List Chan) (s : State) : State :=
  cs.foldl (fun s c => addHold k c s) s

/-- One hold change that removes a hold from many channels (R41). -/
def removeHolds (k : HoldKind) (cs : List Chan) (s : State) : State :=
  cs.foldl (fun s c => removeHold k c s) s

/-! ## Safe causes (R124, R125) -/

/-- A safe cause is added: in RUN this is the entry to SAFE, in SAFE it enters the set, elsewhere it is not taken (R124). -/
def addCause (k : Cause) (s : State) : State :=
  match s.mode with
  | .run =>
    let s := addHolds .safe s.guarded (quenchAll s)
    { s with causes := s.causes.put k true, mode := .safe }
  | .safe => { s with causes := s.causes.put k true }
  | .config => s
  | .shutdown => s

/-- The return from SAFE to RUN, when the set has become empty (R125). -/
def returnIfClear (s : State) : State :=
  if s.mode = .safe ∧ s.causes.isEmpty then
    let s := removeHolds .safe s.guarded s
    { s with mode := .run }
  else s

/-- A safe cause is removed; a cause that is not in the set leaves everything as it is (R125). -/
def removeCause (k : Cause) (s : State) : State :=
  if s.causes.has k then returnIfClear { s with causes := s.causes.put k false } else s

/-! ## The Upstream Queue (R113) -/

/-- A frame is placed at the tail of the Upstream Queue (R113). -/
def pushUp (f : Frame) (s : State) : State := { s with upQ := s.upQ ++ [f] }

/-- The Upstream Queue has room for a frame (R113). -/
def State.upRoom (s : State) : Bool := decide (s.upQ.length < Config.upstreamCapacity)

end Sys2Proof.Machine
end

