-- ==== Sys2Proof/Machine/ChargeOps.lean ====
section
/-! DEFINITION. The Charge Sequencer's shared operations: readiness, the clearing condition, the donor's ON, charge failure, the open of a context, recharge, abort and the settle read (Chapter 3). -/

namespace Sys2Proof.Machine

/-- A channel is ready: its output is in the ready mask of its stage (R48). -/
def State.ready (s : State) (c : Chan) : Bool :=
  (s.stages.get (Chan.stage c)).mask.getLsbD (Chan.output c).val

/-- The open context of a target (R49). -/
def State.ctx (s : State) (t : Chan) : Option Ctx := s.ctxs.find? fun x => x.target == t

/-- The open context a channel belongs to, as target or as donor (R163). -/
def State.ctxWith (s : State) (c : Chan) : Option Ctx :=
  s.ctxs.find? fun x => x.target == c || x.donor == c

/-- The state with the context of a target changed. -/
def modCtx (t : Chan) (f : Ctx → Ctx) (s : State) : State :=
  { s with ctxs := s.ctxs.map fun x => if x.target = t then f x else x }

/-- Closes the context of a target (R49). -/
def closeCtx (t : Chan) (s : State) : State := { s with ctxs := s.ctxs.filter fun x => x.target != t }

/-- A context put into its place, in ascending target. -/
def insertCtx (x : Ctx) (xs : List Ctx) : List Ctx :=
  match xs with
  | [] => [x]
  | y :: rest => if x.target < y.target then x :: y :: rest else y :: insertCtx x rest

/-- The state of a runtime record and its requested level set. -/
def setState (c : Chan) (st : ChState) (v : Level) (s : State) : State :=
  modChan c (fun r => { r with state := st, requested := v }) s

/-- The on-timer of a channel stopped (R38). -/
def stopOnTimer (c : Chan) (s : State) : State := modChan c (fun r => { r with onTimer := none }) s

/-- Passing from CLEARING into DONOR_ON: an ON is placed for the donor, which goes to LENT (R45, R53). -/
def lendDonor (x : Ctx) (s : State) : State :=
  let s := setState x.donor .lent .off (stopOnTimer x.donor (place x.donor .on .normal s))
  modCtx x.target (fun y => { y with phase := .donorOn, timer := none }) s

/-- The clearing condition of a context is judged (R52). -/
def judgeClearing (x : Ctx) (s : State) : State :=
  if s.live x.target || s.offOnItsWay x.target then modCtx x.target (fun y => { y with timer := none }) s
  else
    match (s.chan x.target).bind ChanRec.lastOff with
    | none => modCtx x.target (fun y => { y with timer := none }) s
    | some t =>
      if hasPassed t x.deadTime s.now then lendDonor x s
      else modCtx x.target (fun y => { y with timer := some (after t x.deadTime) }) s

/-- Charge failure of a target (R57 to R59): the context closes, a CHARGE_FAIL record is made, and the policy of the
target's active entry is applied. -/
def chargeFailure (t : Chan) (attempts : Nat) (s : State) : State :=
  let s := makeRecord (.chargeFail t attempts) (closeCtx t s)
  match (s.entry t).map Entry.policy with
  | some .lock => addHold .lock t s
  | some .safe => addCause .charge (setState t .off .off s)
  | none => s

/-- The open of a context for a target that has just gone to PRIMING (R51). -/
def openCtx (t : Chan) (s : State) : State :=
  match s.entry t with
  | none => s
  | some e =>
    match e.partner, e.precond with
    | some d, some p =>
      if (s.chan d).any fun r => !r.holds.isEmpty then chargeFailure t 0 s
      else
        let x : Ctx :=
          { target := t, donor := d, phase := .clearing, attempt := 1, chargeTime := p.chargeTime,
            attemptLimit := p.attemptLimit, deadTime := e.deadTime, timer := none }
        judgeClearing x { s with ctxs := insertCtx x s.ctxs }
    | _, _ => s

/-- The abort of a context by an OFF request for its target (R31, R62). -/
def abortCtx (t : Chan) (s : State) : State :=
  match s.ctx t with
  | none => s
  | some x =>
    let s := closeCtx t s
    if (s.chan x.donor).any fun r => r.state == .lent then
      setState x.donor .off .off (place x.donor .off .normal s)
    else s

/-- The expiry of the phase timer in SETTLE: success, the next attempt, or charge failure (R56). -/
def settleRead (x : Ctx) (s : State) : State :=
  if s.ready x.target then
    setState x.target .on .on (place x.target .on .normal (closeCtx x.target s))
  else if x.attempt < x.attemptLimit then
    let y : Ctx := { x with attempt := x.attempt + 1, phase := .clearing, timer := none }
    judgeClearing y (modCtx x.target (fun _ => y) s)
  else chargeFailure x.target x.attemptLimit s

/-- The recharge of a target whose ready bit has fallen: it acts on a target in ON alone (R60, R61). -/
def recharge (c : Chan) (s : State) : State :=
  if (s.chan c).any fun r => r.state == .on then
    let s := setState c .priming .on (stopOnTimer c (place c .off .normal s))
    count .recharge 1 (openCtx c s)
  else s

/-- A ready-mask change of a stage handed to the Charge Sequencer: the targets whose bit has fallen are looked at in
ascending channel id (R60, R107). -/
def maskChange (st : Stage) (old new : BitVec 16) (s : State) : State :=
  let fallen := s.active.filter fun e =>
    Chan.stage e.id == st && e.precond.isSome && old.getLsbD (Chan.output e.id).val
      && !new.getLsbD (Chan.output e.id).val
  (fallen.map Entry.id).foldl (fun s c => recharge c s) s

end Sys2Proof.Machine
end

