-- ==== Sys2Proof/Machine/ChannelOps.lean ====
section
/-! DEFINITION. The Channel State Unit's shared operations: the ON path, requests, entries taken, on-timer expiries and emission completions (Chapter 2). -/

namespace Sys2Proof.Machine

/-! ## The ON path (R27) -/

/-- X goes to WAIT with a PARTNER entry (R27 steps 1 and 2). -/
def waitPartner (c : Chan) (seq : Byte) (s : State) : State :=
  fileUndated c .partner seq (setState c .wait .on s)

/-- X goes to WAIT with a DEAD entry (R27 step 3). -/
def waitDead (c : Chan) (due : Time) (seq : Byte) (s : State) : State :=
  fileDated c .dead due seq (setState c .wait .on s)

/-- X goes to PRIMING and a context is opened (R27 step 4). -/
def prime (c : Chan) (s : State) : State := openCtx c (setState c .priming .on s)

/-- An ON for X is placed NORMAL and X goes to ON (R27 step 5). -/
def switchOn (c : Chan) (s : State) : State := setState c .on .on (place c .on .normal s)

/-- The ON path evaluation of channel X with the request sequence its entry would carry (R27). It looks at X's partner
alone, never at an OFF for X itself: what R62 says of an ON request for a donor after an abort is read so (DESIGN CHOICE,
log entry 31). -/
def onPath (c : Chan) (seq : Byte) (s : State) : State :=
  match s.entry c with
  | none => s
  | some e =>
    match e.partner with
    | none => switchOn c s
    | some p =>
      if s.live p || s.offOnItsWay p then waitPartner c seq s
      else
        match (s.chan p).bind ChanRec.lastOff with
        | none => waitPartner c seq s
        | some t =>
          if !hasPassed t e.deadTime s.now then waitDead c (after t e.deadTime) seq s
          else if e.precond.isSome && !s.ready c then prime c s
          else switchOn c s

/-! ## Requests (R29 to R32) -/

/-- The answer of the Channel State Unit to a request (R29). -/
inductive Answer where
  | accepted
  | held
  | conflict
  deriving DecidableEq, Repr

/-- The partner of a channel is requested ON (R30). -/
def State.partnerRequestedOn (s : State) (c : Chan) : Bool :=
  (s.partner c).any fun p => (s.chan p).any fun r => r.requested == .on

/-- An ON request for a guarded channel (R30). -/
def onRequest (c : Chan) (seq : Byte) (s : State) : Answer × State :=
  match s.chan c with
  | none => (.accepted, s)
  | some r =>
    if r.state = .forced then (.held, s)
    else if s.partnerRequestedOn c then (.conflict, s)
    else
      match r.state with
      | .off => (.accepted, onPath c seq (setState c .off .on s))
      | .onHold => (.accepted, setState c .on .on (count .superseded 1 (removePend c s)))
      | _ => (.accepted, s)

/-- An OFF setting is placed NORMAL at the controller's request, the on-timer stops and the channel goes to OFF (R32,
R37). -/
def switchOff (c : Chan) (s : State) : State :=
  setState c .off .off (stopOnTimer c (place c .off .normal s))

/-- An OFF request for a channel in state ON, by where its ON setting stands (R32). -/
def offRequestInOn (r : ChanRec) (e : Entry) (seq : Byte) (s : State) : State :=
  if s.onWaiting r.id then switchOff r.id s
  else if s.onSending r.id then fileUndated r.id .dwell seq (setState r.id .onHold .off s)
  else
    match r.onTime with
    | none => switchOff r.id s
    | some t =>
      if hasPassed t e.minDwell s.now then switchOff r.id s
      else fileDated r.id .dwell (after t e.minDwell) seq (setState r.id .onHold .off s)

/-- An OFF request for a guarded channel; it is always accepted (R31, R32). One that a same-frame conflict has put in
place of an ON (R76) counts superseded as any other where it removes a WAIT entry: R76 says that the replacement counts
nothing beyond the pair-conflict count, and R24 that the controller asked for the opposite level (DESIGN CHOICE, log
entry 32). -/
def offRequest (c : Chan) (seq : Byte) (s : State) : State :=
  match s.chan c, s.entry c with
  | some r, some e =>
    match r.state with
    | .on => offRequestInOn r e seq s
    | .wait => setState c .off .off (count .superseded 1 (removePend c s))
    | .priming => setState c .off .off (abortCtx c s)
    | _ => s
  | _, _ => s

/-! ## Entries taken and on-timer expiries (R36 to R40) -/

/-- A DEAD entry is taken: it is removed, and the ON path is applied to its channel again (R26, R36). -/
def takeDead (e : PendEntry) (s : State) : State := onPath e.chan e.seq (removePend e.chan s)

/-- A DWELL entry is taken: it is removed, an OFF is placed NORMAL, the on-timer stops and the channel goes to OFF
(R26, R37). -/
def takeDwell (e : PendEntry) (s : State) : State := switchOff e.chan (removePend e.chan s)

/-- An OFF is placed URGENT, the on-timer stops and the channel goes to OFF (R39, R40). -/
def urgentOff (c : Chan) (s : State) : State :=
  setState c .off .off (stopOnTimer c (place c .off .urgent s))

/-- The expiry of the on-timer of a channel: in ON the ON is truncated with a record (R39), in ON_HOLD the dwell is
ended early without one (R40). -/
def onTimerExpires (c : Chan) (s : State) : State :=
  match (s.chan c).map ChanRec.state with
  | some .on => makeRecord (.truncated c) (urgentOff c s)
  | some .onHold => urgentOff c (removePend c s)
  | _ => s

/-! ## Emission completion (R33 to R35) -/

/-- What an emitted frame carried for a channel: the level of its setting, OFF for a QUENCH of its stage, or none (R33). -/
def EmitRec.level (r : EmitRec) (c : Chan) : Option Level :=
  match r with
  | .aux _ => none
  | .set r =>
    if r.stage = Chan.stage c then
      if r.quench then some .off
      else (r.settings.find? fun x => x.output == Chan.output c).map OutSetting.level
    else none

/-- A runtime record after an emission completion at `now` that carried a level for it (R33). -/
def ChanRec.emitted (v : Level) (now : Time) (r : ChanRec) : ChanRec :=
  match v with
  | .on => { r with effective := .on, onTime := some (r.onTime.getD now) }
  | .off => { r with effective := .off, lastOff := some now, onTime := none }

/-- The records of all channels the frame concerns are updated (R33). -/
def updateEmitted (rec : EmitRec) (s : State) : State :=
  { s with
    chans := s.chans.map fun r =>
      match rec.level r.id with
      | none => r
      | some v => r.emitted v s.now }

/-- The on-timer of a channel after its ON emission: started from the ON emission time where the active entry has a
maximum on-time and the timer does not run yet (R34, R38). -/
def startOnTimer (c : Chan) (s : State) : State :=
  modChan c (fun r =>
    match r.onTimer, r.onTime, (s.entry c).bind Entry.maxOn with
    | none, some t, some m => { r with onTimer := some (after t (ms m)) }
    | _, _, _ => r) s

/-- The on-timer of a channel has just been started, and its expiry is at or before now (R34). -/
def startedOverdue (c : Chan) (before after : State) : Bool :=
  (before.chan c).any (fun r => r.onTimer.isNone) && (after.chan c).any fun r => timerDue r.onTimer after.now

/-- A DWELL entry without a due time receives it: the ON emission time plus the minimum dwell of the active entry
(R34). -/
def dateDwell (c : Chan) (s : State) : State :=
  match s.pend c, (s.chan c).bind ChanRec.onTime, s.entry c with
  | some e, some t, some en =>
    if e.reason = .dwell ∧ e.due = none then
      fileDated c .dwell (after t en.minDwell) e.seq (removePend c s)
    else s
  | _, _, _ => s

/-- The consequences of an emission completion that carried ON for a channel (R34). -/
def onEmitted (c : Chan) (s : State) : State :=
  match (s.chan c).map ChanRec.state with
  | some .on =>
    let s' := startOnTimer c s
    if startedOverdue c s s' then onTimerExpires c s' else s'
  | some .onHold =>
    let undated := (s.pend c).any fun e => e.reason == .dwell && e.due.isNone
    let s' := startOnTimer c s
    let s'' := dateDwell c s'
    match s''.pend c with
    | some e =>
      if undated && timerDue e.due s''.now then takeDwell e s''
      else if startedOverdue c s s' then onTimerExpires c s'' else s''
    | none => if startedOverdue c s s' then onTimerExpires c s'' else s''
  | _ => s

/-- The consequences of an emission completion that carried OFF for a channel, or was a QUENCH of its stage: its
partner's PARTNER entry becomes a DEAD entry, taken at once when the dead time is 0 (R35). -/
def offEmitted (c : Chan) (s : State) : State :=
  match s.partner c with
  | none => s
  | some p =>
    match s.pend p, s.entry p with
    | some e, some en =>
      if e.reason = .partner then
        let s := fileDated p .dead (after s.now en.deadTime) e.seq (removePend p s)
        if reached (after s.now en.deadTime) s.now then takeDead { e with reason := .dead } s else s
      else s
    | _, _ => s

/-- The consequences of a completion for one channel it concerns (R34, R35). -/
def emissionConsequence (c : Chan) (v : Level) (s : State) : State :=
  match v with
  | .on => onEmitted c s
  | .off => offEmitted c s

/-- The channels an emitted frame concerns with the levels it carried, in ascending channel id (R33). -/
def concerned (rec : EmitRec) (s : State) : List (Chan × Level) :=
  s.guarded.filterMap fun c => (rec.level c).map fun v => (c, v)

/-- A context takes an emission completion (R52, R53, R55): in CLEARING one that concerns the target, in DONOR_ON one
that carries ON for the donor, in DONOR_OFF one that carries OFF for the donor or is a QUENCH of the stage. -/
def ctxEmitted (rec : EmitRec) (t : Chan) (s : State) : State :=
  match s.ctx t with
  | none => s
  | some x =>
    match x.phase with
    | .clearing => if (rec.level x.target).isSome then judgeClearing x s else s
    | .donorOn =>
      if rec.level x.donor = some .on then
        modCtx t (fun y => { y with phase := .charging, timer := some (after s.now x.chargeTime) }) s
      else s
    | .donorOff =>
      if rec.level x.donor = some .off then
        let y : Ctx := { x with phase := .settle, timer := some (after s.now x.deadTime) }
        let s := modCtx t (fun _ => y) s
        if timerDue y.timer s.now then settleRead y s else s
      else s
    | .charging => s
    | .settle => s

/-- An emission completion is taken by the Channel State Unit and then by the Charge Sequencer (R33, R99). -/
def emissionTaken (rec : EmitRec) (s : State) : State :=
  let s := updateEmitted rec s
  let s := (concerned rec s).foldl (fun s cv => emissionConsequence cv.1 cv.2 s) s
  (s.ctxs.map Ctx.target).foldl (fun s t => ctxEmitted rec t s) s

end Sys2Proof.Machine
end

