-- ==== Sys2Proof/Machine/ModeOps.lean ====
section
/-! DEFINITION. Operations of the Stage Monitor, the Zone Monitors, the Tick Monitor and the Mode Controller that several commands share: stage records with their STAGE hold, zone states with their ZONE hold, stream failures, SHUTDOWN entry, START, STOP and RESUME. -/

namespace Sys2Proof.Machine

/-! ## Stage records (R103, R111) -/

/-- The condition of the STAGE hold: presence LOST or fault flag set (R111). -/
def StageRec.holdsOff (r : StageRec) : Bool := r.presence == .lost || r.fault

/-- A stage record is replaced and the STAGE hold of the stage decided from it (R111). -/
def setStage (st : Stage) (r : StageRec) (s : State) : State :=
  let old := s.stages.get st
  let s := { s with stages := s.stages.set st r }
  if !old.holdsOff && r.holdsOff then addHolds .stage (s.guardedOn st) s
  else if old.holdsOff && !r.holdsOff then removeHolds .stage (s.guardedOn st) s
  else s

/-- A report timer started now (R109); stopped when the report timeout is 0. -/
def State.reportTimer (s : State) : Option Time :=
  if s.activeSet.reportTimeout = 0 then none else some (after s.now (ms s.activeSet.reportTimeout))

/-- Each of the four stage records is replaced, with its STAGE hold decided and its mask change handed on (R103,
R107, R111). -/
def setStages (f : Stage → StageRec → StageRec) (s : State) : State :=
  Config.allStages.foldl (fun s st =>
    let old := s.stages.get st
    let new := f st old
    maskChange st old.mask new.mask (setStage st new s)) s

/-! ## Zone Monitors (R147, R151) -/

/-- Whether a Zone Monitor's state is BLOCKED, with any cause. -/
def ZoneState.isBlocked (z : ZoneState) : Bool :=
  match z with
  | .blocked _ => true
  | .inactive => false
  | .released => false

/-- A Zone Monitor's state and toggle timer are set, and the ZONE hold of its zone follows (R151). -/
def setZone (z : Zone) (st : ZoneState) (timer : Option Time) (s : State) : State :=
  let old := s.zones.get z
  let s := { s with zones := s.zones.set z { old with state := st, timer := timer } }
  if !old.state.isBlocked && st.isBlocked then addHolds .zone (s.guardedIn z) s
  else if old.state.isBlocked && !st.isBlocked then removeHolds .zone (s.guardedIn z) s
  else s

/-- Both Zone Monitors go to INACTIVE with their timers stopped, and every ZONE hold is removed (R152). -/
def stopZones (s : State) : State := setZone 1 .inactive none (setZone 0 .inactive none s)

/-- A Zone Monitor starts by its zone mode and the recognised level of its line (R148). -/
def startZone (z : Zone) (s : State) : State :=
  match s.activeSet.zoneMode.get z with
  | .off => setZone z .inactive none s
  | .direct =>
    if (s.zones.get z).recognised then setZone z .released none s
    else setZone z (.blocked .lineLow) none s
  | .toggle => setZone z (.blocked .notYet) none s

/-! ## SHUTDOWN entry (R129) -/

/-- The Emit Queue at SHUTDOWN entry: every waiting record that is not a quench record is discarded and the closed
flag is set; the record in transmission goes on (R100). -/
def EmitQueue.shut (q : EmitQueue) : EmitQueue :=
  { q with sets := q.sets.filter SetRec.quench, auxs := [], closed := true }

/-- The recognition of a zone line stopped (R146). -/
def stopRecognition (z : Zone) (s : State) : State :=
  { s with zones := s.zones.set z { s.zones.get z with measuring := none } }

/-- The report timers of all four stages stopped, the rest of their records kept (R110). -/
def stopReportTimers (s : State) : State :=
  { s with
    stages := ⟨{ s.stages.s0 with timer := none }, { s.stages.s1 with timer := none },
      { s.stages.s2 with timer := none }, { s.stages.s3 with timer := none }⟩ }

/-- SHUTDOWN entry, in the order of R129. -/
def enterShutdown (s : State) : State :=
  let s := quenchAll s
  let s := removeHolds .safe s.guarded (addHolds .mode s.guarded s)
  let s := { s with causes := Causes.none, tick := { s.tick with state := .off, timer := none } }
  let s := stopReportTimers (stopRecognition 1 (stopRecognition 0 (stopZones s)))
  let s := { s with emit := s.emit.shut, upQ := [], utx := .silent, handler := .idle }
  let s := makeRecord .streamLimit s
  { s with mode := .shutdown, shutdownFor := 0 }

/-! ## The Tick Monitor (R135 to R142) -/

/-- The Tick Monitor goes to a timed state with its timer due `d` milliseconds from now (R135). -/
def tickTo (st : TickState) (d : Nat) (s : State) : State :=
  { s with tick := { s.tick with state := st, timer := some (after s.now (ms d)) } }

/-- The first window: OPEN_FIRST for Tmin plus Tw (R137, R142). -/
def tickOpenFirst (s : State) : State := tickTo .openFirst (s.activeSet.tmin + s.activeSet.tw) s

/-- A valid tick (R138). -/
def validTick (s : State) : State :=
  let s := tickTo .closed s.activeSet.tmin s
  removeCause .stream { s with tick := { s.tick with fails := 0 } }

/-- The fail count increased by 1, saturating at 15 (R140). -/
def satInc4 (x : BitVec 4) : BitVec 4 := if x = 15 then 15 else x + 1

/-- An early or late failure of the tick stream (R140). -/
def streamFailure (k : FaultKind) (s : State) : State :=
  let s := makeRecord k s
  if s.activeSet.failLimit ≠ 0 ∧ s.tick.fails = s.activeSet.failLimit then enterShutdown s
  else
    let s := addCause .stream { s with tick := { s.tick with fails := satInc4 s.tick.fails } }
    if s.activeSet.resetPulse = 0 then tickTo .grace s.activeSet.grace s
    else tickTo .resetting s.activeSet.resetPulse s

/-! ## START, STOP and RESUME (R122, R123, R127) -/

/-- The steps of a START taken (R122). -/
def startSteps (s : State) : State :=
  let s := { s with window := { s.window with synced := false } }
  let timer := s.reportTimer
  let s := setStages (fun st r =>
    { r with presence := .silent, mask := 0, timer := if s.used st then timer else none }) s
  let s := startZone 1 (startZone 0 s)
  let s := if s.activeSet.tmin = 0 then { s with tick := { s.tick with state := .off, timer := none } }
    else tickOpenFirst s
  let s := removeHolds .mode s.guarded s
  { s with mode := .run }

/-- The steps of a STOP taken (R123). -/
def stopSteps (s : State) : State :=
  let s := quenchAll s
  let s := removeHolds .safe s.guarded (addHolds .mode s.guarded s)
  let s := { s with causes := Causes.none, tick := ⟨.off, none, 0⟩ }
  let s := setStages (fun _ _ => StageRec.initial) (stopZones s)
  { s with mode := .config }

/-- The steps of a RESUME taken (R127). -/
def resumeSteps (s : State) : State :=
  let s := { s with causes := (s.causes.put .command false).put .charge false }
  returnIfClear (removeHolds .lock s.guarded s)

end Sys2Proof.Machine
end

