-- ==== Sys2Proof/Machine/Channels.lean ====
section
/-! DEFINITION. The commands of the Channel State Unit and the Charge Sequencer: entries taken, on-timer expiries and phase timer expiries (Chapters 2 and 3). -/

namespace Sys2Proof.Machine

/-- The head of the Pending Queue, when its reason is the one given and its due time is reached (R26: entries are taken
in queue order). -/
def State.dueHead (s : State) (r : Reason) : Option PendEntry :=
  match s.pendQ with
  | [] => none
  | e :: _ => if e.reason == r && timerDue e.due s.now then some e else none

/-- The head of the Pending Queue is taken when it is due and of the reason given (R26). -/
def takeHead (r : Reason) (take : PendEntry → State → State) (s : State) : State :=
  match s.dueHead r with
  | none => s
  | some e => take e s

/-- DEAD_ENTRY_TAKEN (R26, R36). -/
def execDeadEntryTaken (dt : Nat) (s : State) : Host.Outcome State Fault Refusal :=
  event dt (takeHead .dead takeDead) s

/-- DWELL_ENTRY_TAKEN (R26, R37). -/
def execDwellEntryTaken (dt : Nat) (s : State) : Host.Outcome State Fault Refusal :=
  event dt (takeHead .dwell takeDwell) s

/-- The on-timer of a channel expires when its expiry is reached (R39, R40). -/
def onTimerCheck (c : Chan) (s : State) : State :=
  if (s.chan c).any fun r => timerDue r.onTimer s.now then onTimerExpires c s else s

/-- ON_TIMER_EXPIRY (R39, R40). -/
def execOnTimerExpiry (dt : Nat) (c : Chan) (s : State) : Host.Outcome State Fault Refusal :=
  event dt (onTimerCheck c) s

/-- The phase timer of a target's context expires in a phase: the expiry has its effect when the context is in that
phase and its due time is reached. -/
def phaseExpiry (t : Chan) (p : Phase) (effect : Ctx → State → State) (s : State) : State :=
  match s.ctx t with
  | none => s
  | some x => if x.phase == p && timerDue x.timer s.now then effect x s else s

/-- CLEARING_TIMER_EXPIRY: the clearing condition is judged again (R52). -/
def execClearingTimerExpiry (dt : Nat) (t : Chan) (s : State) : Host.Outcome State Fault Refusal :=
  event dt (phaseExpiry t .clearing judgeClearing) s

/-- The charge time has run: an OFF is placed for the donor, which goes to OFF, and the phase becomes DONOR_OFF (R45,
R54). -/
def chargingEnds (x : Ctx) (s : State) : State :=
  let s := setState x.donor .off .off (place x.donor .off .normal s)
  modCtx x.target (fun y => { y with phase := .donorOff, timer := none }) s

/-- CHARGING_EXPIRY (R54). -/
def execChargingExpiry (dt : Nat) (t : Chan) (s : State) : Host.Outcome State Fault Refusal :=
  event dt (phaseExpiry t .charging chargingEnds) s

/-- SETTLE_EXPIRY (R56). -/
def execSettleExpiry (dt : Nat) (t : Chan) (s : State) : Host.Outcome State Fault Refusal :=
  event dt (phaseExpiry t .settle settleRead) s

end Sys2Proof.Machine
end

