-- ==== Sys2Proof/Machine/CommitOps.lean ====
section
/-! DEFINITION. The COMMIT operation: validation, the install check and the install with its adoptions, releases, stage use changes and zone hold renewals (Chapter 1). -/

namespace Sys2Proof.Machine

/-! ## Validation (R12) -/

/-- The check codes (R12). -/
inductive CheckCode where
  | precondUnpaired
  | partnerSelf
  | partnerMissing
  | partnerStage
  | partnerAsymmetric
  | deadMismatch
  | zoneMismatch
  | precondBoth
  deriving DecidableEq, Repr

/-- The coding of the check codes, 1 to 8 in the order of R12 (R166). -/
def CheckCode.code (c : CheckCode) : Byte :=
  match c with
  | .precondUnpaired => 1
  | .partnerSelf => 2
  | .partnerMissing => 3
  | .partnerStage => 4
  | .partnerAsymmetric => 5
  | .deadMismatch => 6
  | .zoneMismatch => 7
  | .precondBoth => 8

/-- The first check an entry fails in a copy, in the order of R12. -/
def checkEntry (copy : List Entry) (e : Entry) : Option CheckCode :=
  match e.partner with
  | none => if e.precond.isSome then some .precondUnpaired else none
  | some p =>
    if p = e.id then some .partnerSelf
    else
      match findEntry p copy with
      | none => some .partnerMissing
      | some q =>
        if Chan.stage p ≠ Chan.stage e.id then some .partnerStage
        else if q.partner ≠ some e.id then some .partnerAsymmetric
        else if q.deadTime ≠ e.deadTime then some .deadMismatch
        else if q.zone ≠ e.zone then some .zoneMismatch
        else if q.precond.isSome ∧ e.precond.isSome then some .precondBoth
        else none

/-- The outcome of the walk: how many entries it examined, and the entry and check at which it stopped (R12). -/
structure Walk where
  examined : Nat
  failure : Option (Chan × CheckCode)
  deriving DecidableEq, Repr

/-- The walk over the entries of a copy, in their order (R12). -/
def walkEntries (copy : List Entry) (es : List Entry) : Walk :=
  match es with
  | [] => ⟨0, none⟩
  | e :: rest =>
    match checkEntry copy e with
    | some c => ⟨1, some (e.id, c)⟩
    | none => ⟨(walkEntries copy rest).examined + 1, (walkEntries copy rest).failure⟩

/-- The validation of the Staging Copy (R12). -/
def validate (s : State) : Walk := walkEntries s.staging s.staging

/-- The microseconds a validation takes: 2, and 3 for each entry examined (R160). -/
def validationTime (s : State) : Nat := 2 + 3 * (validate s).examined

/-! ## The install check (R14) -/

/-- A channel of the Active Copy passes the install check (R14). -/
def passesInstall (s : State) (e : Entry) : Bool :=
  match s.chan e.id with
  | none => true
  | some r =>
    if r.state = .off ∨ r.state = .forced then
      !(s.live e.id && (findEntry e.id s.staging).any fun n => n.partner != e.partner)
    else
      (findEntry e.id s.staging).any fun n =>
        n.partner == e.partner && n.precond.isSome == e.precond.isSome

/-- The first channel of the Active Copy that fails the install check, in ascending channel id (R14). -/
def installCheck (s : State) : Option Chan :=
  (s.active.find? fun e => !passesInstall s e).map Entry.id

/-! ## The install (R15 to R19, R104) -/

/-- A change of use of a stage acts on its record (R104). -/
def useChange (usedBefore : Stage → Bool) (st : Stage) (s : State) : State :=
  let r := s.stages.get st
  if !usedBefore st && s.used st then
    if s.mode ≠ .config ∧ s.activeSet.reportTimeout ≠ 0 then
      setStage st { r with presence := .silent, timer := s.reportTimer } s
    else s
  else if usedBefore st && !s.used st then setStage st { r with timer := none } s
  else s

/-- The Zone Monitor of an entry's zone is BLOCKED (R17, R18). -/
def State.zoneBlocked (s : State) (e : Entry) : Bool :=
  e.zone.any fun z => (s.zones.get z).state.isBlocked

/-- The hold set of a channel at its adoption (R18). -/
def adoptionHolds (s : State) (e : Entry) : Holds :=
  { mode := s.mode == .config
    safe := s.mode == .safe
    zone := s.zoneBlocked e
    stage := (s.stages.get (Chan.stage e.id)).holdsOff
    lock := false }

/-- A runtime record put into its place, in ascending channel id. -/
def insertChan (r : ChanRec) (rs : List ChanRec) : List ChanRec :=
  match rs with
  | [] => [r]
  | x :: rest => if r.id < x.id then r :: x :: rest else x :: insertChan r rest

/-- The adoption of a newly guarded channel: its runtime record, and an OFF placed for it (R18). -/
def adopt (e : Entry) (s : State) : State :=
  let h := adoptionHolds s e
  let r : ChanRec :=
    { id := e.id, state := if h.isEmpty then .off else .forced, holds := h, requested := .off,
      effective := .on, lastOff := none, onTime := none, onTimer := none }
  place e.id .off (if h.isEmpty then .normal else .urgent) { s with chans := insertChan r s.chans }

/-- The renewal of the ZONE hold of a channel that stays guarded and whose zone has changed (R17). -/
def renewZone (old : List Entry) (e : Entry) (s : State) : State :=
  match findEntry e.id old, s.chan e.id with
  | some o, some r =>
    if o.zone = e.zone then s
    else if s.zoneBlocked e ∧ ¬ r.holds.zone then addHold .zone e.id s
    else if ¬ s.zoneBlocked e ∧ r.holds.zone then removeHold .zone e.id s
    else s
  | _, _ => s

/-- The install, in one step (R15): the staging side becomes the active side, then stage use, adoptions, releases and
zone holds follow. -/
def install (s : State) : State :=
  let old := s.active
  let usedBefore := s.used
  let s := { s with active := s.staging, activeSet := s.stagingSet, committed := true }
  let s := Config.allStages.foldl (fun s st => useChange usedBefore st s) s
  let adopted := s.active.filter fun e => (findEntry e.id old).isNone
  let s := adopted.foldl (fun s e => adopt e s) s
  let s := { s with chans := s.chans.filter fun r => (findEntry r.id s.active).isSome }
  s.active.foldl (fun s e => renewZone old e s) s

end Sys2Proof.Machine
end

