-- ==== Sys2Proof/Machine/Intake.lean ====
section
/-! DEFINITION. Command Intake: DRIVE and AUX frames (Chapter 4), and what every received frame passes first. -/

namespace Sys2Proof.Machine

/-! ## Receiving a whole frame -/

/-- The state of a port's receiver set. -/
def setRx (p : Port) (r : Receiver) (s : State) : State := { s with rx := s.rx.set p r }

/-- A port takes frames: not in SHUTDOWN, where its receiver takes none (R130, R183), and not while its line is held
low by a break (R181). -/
def State.takesFrames (s : State) (p : Port) : Bool := s.mode != .shutdown && s.rx.get p != .idleWait

/-- A whole frame arrives at a port: its receiver returns to HUNT, a payload above 32 octets makes it malformed
(R181, R182), and otherwise the block that takes its kind acts on it. -/
def receiveFrame (p : Port) (payload : List Byte) (take : State → State) (s : State) : State :=
  if s.takesFrames p then
    let s := setRx p .hunt s
    if Config.maxPayload < payload.length then count (malformedCounter p) 1 s else take s
  else s

/-! ## DRIVE (R69 to R80) -/

/-- The settings of a DRIVE frame for a stage, in payload order (R69). -/
def driveSettings (st : Stage) (payload : List Byte) : List (Chan × Level) :=
  payload.map fun b => (Chan.of st (settingOutput b), settingLevel b)

/-- The form of a DRIVE payload: 1 to 16 settings, no output named twice, unused bits zero (R70). -/
def drivePayloadWellFormed (payload : List Byte) : Bool :=
  !payload.isEmpty && decide (payload.length ≤ 16) && decide ((payload.map settingOutput).Nodup)
    && payload.all settingUnusedZero

/-- The verdict of the sequence window (R73). -/
inductive Verdict where
  | accepted
  | acceptedGap (missed : Nat)
  | duplicate
  | stale
  deriving DecidableEq, Repr

/-- The sequence window judges a sequence (R73). -/
def Window.judge (w : Window) (seq : Byte) : Verdict :=
  if !w.synced then .accepted
  else
    let d := (seq - w.last).toNat
    if d = 0 then .duplicate else if d = 1 then .accepted
    else if d ≤ 127 then .acceptedGap (d - 1) else .stale

/-- The refusal of a setting or frame: the last refusal record is written (R81). -/
def writeRefusal (c : Chan) (seq : Byte) (r : RefusalReason) (s : State) : State :=
  { s with lastRefusal := some ⟨c, seq, r⟩ }

/-- The pairs both of whose channels a list of settings asks ON, each by its lower channel id and the higher one, in
ascending order of the lower id (R76). -/
def conflictPairs (settings : List (Chan × Level)) (s : State) : List (Chan × Chan) :=
  s.active.filterMap fun e =>
    match e.partner with
    | none => none
    | some p =>
      if e.id < p ∧ s.partner p = some e.id ∧ settings.contains (e.id, Level.on)
          ∧ settings.contains (p, Level.on) then some (e.id, p)
      else none

/-- The settings after those of a conflicting pair are replaced by OFF, each at its place (R76). What such an OFF counts in
WAIT is the choice of log entry 32. -/
def resolveConflicts (pairs : List (Chan × Chan)) (settings : List (Chan × Level)) : List (Chan × Level) :=
  settings.map fun x => if pairs.any (fun p => p.1 == x.1 || p.2 == x.1) then (x.1, Level.off) else x

/-- The count and the fault record of one conflicting pair (R76). -/
def noteConflict (seq : Byte) (lower : Chan) (s : State) : State :=
  makeRecord (.conflict lower seq) (count .pairConflict 1 s)

/-- A guarded setting is handed to the Channel State Unit as a request, and its answer is dealt with (R77). -/
def guardedSetting (c : Chan) (v : Level) (seq : Byte) (s : State) : State :=
  match v with
  | .off => offRequest c seq s
  | .on =>
    match onRequest c seq s with
    | (.accepted, s) => s
    | (.held, s) => writeRefusal c seq .held (count .refusedHeld 1 s)
    | (.conflict, s) => writeRefusal c seq .conflict (count .refusedConflict 1 s)

/-- An unguarded setting: forwarded in RUN under policy OPEN (R78), dropped in RUN under policy CLOSED (R79) and in
SAFE (R80). -/
def unguardedSetting (c : Chan) (v : Level) (seq : Byte) (s : State) : State :=
  if s.mode = .run then
    match s.activeSet.passPolicy with
    | .opened => place c v .normal s
    | .closed => writeRefusal c seq .closed (count .refusedClosed 1 s)
  else writeRefusal c seq .mode (count .refusedMode 1 s)

/-- One setting of an accepted frame is dealt with at its place in the list (R75). -/
def dealSetting (seq : Byte) (s : State) (x : Chan × Level) : State :=
  if (s.entry x.1).isSome then guardedSetting x.1 x.2 seq s else unguardedSetting x.1 x.2 seq s

/-- The split of an accepted frame: the same-frame conflict check, then each setting in payload order (R75, R76). -/
def splitFrame (seq : Byte) (settings : List (Chan × Level)) (s : State) : State :=
  let pairs := conflictPairs settings s
  let s := (pairs.map Prod.fst).foldl (fun s c => noteConflict seq c s) s
  (resolveConflicts pairs settings).foldl (dealSetting seq) s

/-- The sequence window takes a frame: its verdict's effect on the window and the counts, and the split of an accepted
frame (R73). -/
def windowFrame (seq : Byte) (settings : List (Chan × Level)) (s : State) : State :=
  match s.window.judge seq with
  | .duplicate => count .duplicate 1 s
  | .stale => count .stale 1 s
  | .accepted => splitFrame seq settings { s with window := ⟨true, seq⟩ }
  | .acceptedGap n => splitFrame seq settings (count .gap n { s with window := ⟨true, seq⟩ })

/-- The mode gate: a frame in CONFIG is refused whole; in RUN and SAFE it goes on to the window; in SHUTDOWN none is
received (R71). -/
def modeGate (seq : Byte) (settings : List (Chan × Level)) (s : State) : State :=
  match s.mode with
  | .config =>
    let s := count .refusedMode 1 s
    match settings with
    | [] => s
    | x :: _ => writeRefusal x.1 seq .mode s
  | .run => windowFrame seq settings s
  | .safe => windowFrame seq settings s
  | .shutdown => s

/-- Command Intake takes a DRIVE frame (R69, R70). -/
def takeDrive (addr : BitVec 4) (seq : Byte) (payload : List Byte) (s : State) : State :=
  match stageOf addr with
  | none => count .uMalformed 1 s
  | some st =>
    if drivePayloadWellFormed payload then modeGate seq (driveSettings st payload) s
    else count .uMalformed 1 s

/-- DRIVE_FRAME (R69). -/
def execDriveFrame (dt : Nat) (addr : BitVec 4) (seq : Byte) (payload : List Byte) (s : State) :
    Host.Outcome State Fault Refusal :=
  event dt (receiveFrame .u payload (takeDrive addr seq payload)) s

/-! ## AUX (R82, R83) -/

/-- An AUX record is placed in the Emit Queue; nothing is stored while the closed flag is set (R82, R87, R100). -/
def EmitQueue.placeAux (q : EmitQueue) (now : Time) (st : Stage) (payload : List Byte) : EmitQueue :=
  if q.closed then q
  else { q with auxs := q.auxs ++ [⟨st, payload, now, q.nextOrder⟩], nextOrder := q.nextOrder + 1 }

/-- Command Intake takes an AUX frame: its address is checked, then it is forwarded, or dropped when four AUX records
wait (R82, R83). -/
def takeAux (addr : BitVec 4) (payload : List Byte) (s : State) : State :=
  match stageOf addr with
  | none => count .uMalformed 1 s
  | some st =>
    if s.emit.auxs.length < Config.auxCapacity then { s with emit := s.emit.placeAux s.now st payload }
    else count .auxDrop 1 s

/-- AUX_FRAME (R82); its sequence octet is not judged. -/
def execAuxFrame (dt : Nat) (addr : BitVec 4) (_seq : Byte) (payload : List Byte) (s : State) :
    Host.Outcome State Fault Refusal :=
  event dt (receiveFrame .u payload (takeAux addr payload)) s

end Sys2Proof.Machine
end

