-- ==== Sys2Proof/Machine/MgmtOps.lean ====
section
/-! DEFINITION. The Management Handler's shared operations: responses, BUSY replies, the order of checks, the data of the reads, and the work of each request (Chapter 9). -/

namespace Sys2Proof.Machine

/-! ## Responses (R156, R157, R159, R175) -/

/-- The result codes (R157). -/
def Result.code (r : Result) : Byte :=
  match r with
  | .ok => 0
  | .busy => 1
  | .range => 2
  | .full => 3
  | .absent => 4
  | .invalid => 5
  | .live => 6
  | .mode => 7
  | .notReady => 8
  | .unknown => 9
  | .length => 10

/-- A RESP frame with the status summary of the state it is placed in (R157). -/
def respFrame (req : Request) (r : Result) (body : List Byte) (s : State) : Frame :=
  ⟨.resp, Config.linkAddress, req.tag, req.name :: r.code :: s.summary :: body⟩

/-- The `k` oldest records leave the Fault Log; emptying it clears the overflow count (R175). -/
def removeRecords (k : Nat) (s : State) : State :=
  if k = 0 then s
  else
    { s with
      log := s.log.drop k
      overflow := if (s.log.drop k).isEmpty then 0 else s.overflow }

/-- A response is placed in the Upstream Queue: its LOG-READ removal first, then its status summary (R157, R175). The
handler goes to IDLE. -/
def placeResponse (req : Request) (resp : Response) (s : State) : State :=
  let s := removeRecords resp.taken s
  pushUp (respFrame req resp.result resp.body s) { s with handler := .idle }

/-- The end of a request's work: its response is placed, or waits in REPLYING when the Upstream Queue is full (R159). -/
def finish (req : Request) (resp : Response) (s : State) : State :=
  if s.upRoom then placeResponse req resp s else { s with handler := .replying req resp }

/-- A request meets a busy handler: a BUSY reply, dropped and counted when the Upstream Queue is full (R156). -/
def busyReply (req : Request) (s : State) : State :=
  if s.upRoom then pushUp (respFrame req .busy [] s) s else count .mgmtDrop 1 s

/-! ## The data of the reads (R161 to R163, R190, R191) -/

/-- Octet 5 of QUERY section 0 (R190). -/
def modeOctet (s : State) : Byte :=
  octet (modeCode s.mode + bit s.causes.stream * 4 + bit s.causes.command * 8 + bit s.causes.charge * 16
    + bit s.committed * 32)

/-- The code of a Tick Monitor state (R190). -/
def TickState.code (t : TickState) : Nat :=
  match t with
  | .off => 0
  | .openFirst => 1
  | .closed => 2
  | .opened => 3
  | .resetting => 4
  | .grace => 5

/-- The code of a Zone Monitor state, with its cause in bits 3 and 2 (R190). -/
def ZoneState.code (z : ZoneState) : Nat :=
  match z with
  | .inactive => 0
  | .released => 1
  | .blocked .lineLow => 2 + 4
  | .blocked .notYet => 2 + 8
  | .blocked .timeout => 2 + 12

/-- Octets 7 and 8 of QUERY section 0 (R190). -/
def zoneUnitOctet (u : ZoneUnit) : Byte := octet (u.state.code + bit u.recognised * 16)

/-- The kind code and the stage of a record in transmission (R91, R190). -/
def recKindStage (r : EmitRec) : Nat × Nat :=
  match r with
  | .set r => ((kindCode (if r.quench then .quench else .drive)).toNat, r.stage.val)
  | .aux r => ((kindCode .aux).toNat, r.stage.val)

/-- Octet 12 of QUERY section 0: the D-port transmitter (R190). -/
def dtxOctet (t : DTx) : Byte :=
  match t with
  | .idle => 0
  | .sending r _ => octet (64 + (recKindStage r).2 * 16 + (recKindStage r).1)
  | .gap => 128
  | .silent => 192

/-- The code of a refusal reason (R190). -/
def RefusalReason.code (r : RefusalReason) : Byte :=
  match r with
  | .held => 1
  | .conflict => 2
  | .closed => 3
  | .mode => 4

/-- Octets 16 to 18 of QUERY section 0: the last refusal record (R190). -/
def refusalOctets (r : Option RefusalRec) : List Byte :=
  match r with
  | none => [255, 0, 0]
  | some r => [octet r.chan.val, r.seq, r.reason.code]

/-- QUERY section 0, the guard (R161, R190). -/
def querySection0 (s : State) : List Byte :=
  octets32 s.now ++
    [modeOctet s, octet (s.tick.state.code + s.tick.fails.toNat * 16),
      zoneUnitOctet s.zones.z0, zoneUnitOctet s.zones.z1,
      octet s.pendQ.length,
      octet (s.emit.sets.length * 16 + (s.emit.sets.filter fun r => r.cls == .urgent).length),
      octet ((s.emit.sets.filter SetRec.quench).length * 16 + s.emit.auxs.length),
      dtxOctet s.emit.dtx, octet s.upQ.length, octet s.log.length, s.overflow] ++
    refusalOctets s.lastRefusal

/-- The code of a presence (R190). -/
def Presence.code (p : Presence) : Nat :=
  match p with
  | .silent => 0
  | .present => 1
  | .lost => 2

/-- The seven octets of a stage record in QUERY section 1 (R190). -/
def stageOctets (s : State) (st : Stage) : List Byte :=
  let r := s.stages.get st
  octet (bit (s.used st) + r.presence.code * 2 + bit r.fault * 8 + bit r.timer.isSome * 16) ::
    (octets16 r.mask.toNat ++ octetsTime r.timer)

/-- QUERY section 1, the four stage records, stage 0 first (R161, R190). -/
def querySection1 (s : State) : List Byte := Config.allStages.flatMap (stageOctets s)

/-- Counts as two octets each, high octet first (R190). -/
def countOctets (cs : List (BitVec 16)) : List Byte := cs.flatMap fun c => octets16 c.toNat

/-- QUERY section 2, the intake counts (R162). -/
def querySection2 (s : State) : List Byte :=
  countOctets [s.counts.uMalformed, s.counts.duplicate, s.counts.stale, s.counts.gap, s.counts.refusedMode,
    s.counts.refusedClosed, s.counts.refusedHeld, s.counts.refusedConflict, s.counts.pairConflict, s.counts.auxDrop]

/-- QUERY section 3, the other counts (R162). -/
def querySection3 (s : State) : List Byte :=
  countOctets [s.counts.superseded, s.counts.recharge, s.counts.dMalformed, s.counts.reportDrop,
    s.counts.mgmtDrop, s.counts.uCrc, s.counts.dCrc]

/-- The code of a channel state (R191). -/
def ChState.code (c : ChState) : Nat :=
  match c with
  | .off => 0
  | .wait => 1
  | .priming => 2
  | .on => 3
  | .onHold => 4
  | .lent => 5
  | .forced => 6

/-- A level as a bit: 1 is ON (R191). -/
def levelBit (v : Level) : Nat :=
  match v with
  | .on => 1
  | .off => 0

/-- The code of a pending entry's reason, 0 for no entry (R191). -/
def reasonCode (e : Option PendEntry) : Nat :=
  match e.map PendEntry.reason with
  | none => 0
  | some .dead => 1
  | some .partner => 2
  | some .dwell => 3

/-- The code of a charge context's phase, 0 for no context (R191). -/
def phaseCode (x : Option Ctx) : Nat :=
  match x.map Ctx.phase with
  | none => 0
  | some .clearing => 1
  | some .donorOn => 2
  | some .charging => 3
  | some .donorOff => 4
  | some .settle => 5

/-- Octet 1 of CHANNEL-READ (R191). -/
def chanOctet1 (r : ChanRec) : Byte :=
  octet (r.state.code + levelBit r.requested * 8 + levelBit r.effective * 16 + bit r.lastOff.isSome * 32
    + bit r.onTime.isSome * 64 + bit r.onTimer.isSome * 128)

/-- Octet 2 of CHANNEL-READ (R191). -/
def chanOctet2 (r : ChanRec) (e : Option PendEntry) : Byte :=
  octet (bit r.holds.mode + bit r.holds.safe * 2 + bit r.holds.zone * 4 + bit r.holds.stage * 8
    + bit r.holds.lock * 16 + ((e.map fun e => levelBit e.reason.target).getD 0) * 32 + reasonCode e * 64)

/-- Octet 3 of CHANNEL-READ (R191). -/
def chanOctet3 (c : Chan) (e : Option PendEntry) (x : Option Ctx) : Byte :=
  octet (bit (e.any fun e => e.due.isSome) + phaseCode x * 2 + bit (x.any fun x => x.donor == c) * 16
    + bit (x.any fun x => x.timer.isSome) * 32)

/-- Octet 4 of CHANNEL-READ (R191). -/
def chanOctet4 (x : Option Ctx) : Byte :=
  octet ((x.map fun x => x.attempt + x.attemptLimit * 16).getD 0)

/-- The other channel of a charge context (R163). -/
def otherChan (c : Chan) (x : Ctx) : Chan := if x.target = c then x.donor else x.target

/-- The 29 octets of a CHANNEL-READ (R163, R191). -/
def channelOctets (r : ChanRec) (s : State) : List Byte :=
  let e := s.pend r.id
  let x := s.ctxWith r.id
  [chanOctet1 r, chanOctet2 r e, chanOctet3 r.id e x, chanOctet4 x] ++
    octetsTime r.lastOff ++ octetsTime r.onTime ++ octetsTime r.onTimer ++
    octetsTime (e.bind PendEntry.due) ++
    [(e.map PendEntry.seq).getD 0, octet ((x.map fun x => (otherChan r.id x).val).getD 0),
      octet ((x.map fun x => x.chargeTime / 10).getD 0)] ++
    octets16 ((x.map Ctx.deadTime).getD 0) ++ octetsTime (x.bind Ctx.timer)

/-! ## The work of each request (R158, section 9.3) -/

/-- A response without detail or data. -/
def Response.plain (r : Result) : Response := ⟨r, [], 0⟩

/-- A response OK with data. -/
def Response.data (d : List Byte) : Response := ⟨.ok, d, 0⟩

/-- The work of a request whose arguments have its length: the response it builds and the state its effects leave. -/
abbrev Work := List Byte → State → Response × State

/-- QUERY (R161, R162). -/
def workQuery : Work := fun args s =>
  match args with
  | [n] =>
    if n = 0 then (.data (querySection0 s), s) else if n = 1 then (.data (querySection1 s), s)
    else if n = 2 then (.data (querySection2 s), s) else if n = 3 then (.data (querySection3 s), s)
    else (.plain .range, s)
  | _ => (.plain .length, s)

/-- CHANNEL-READ (R163). -/
def workChannelRead : Work := fun args s =>
  match args with
  | [c] =>
    match decodeChan c with
    | none => (.plain .range, s)
    | some c =>
      match s.chan c with
      | none => (.plain .absent, s)
      | some r => (.data (channelOctets r s), s)
  | _ => (.plain .length, s)

/-- The copy a copy octet names: 0 the staging side, 1 the active side (R164). -/
def copyOf (b : Byte) (s : State) : Option (List Entry × Settings) :=
  if b = 0 then some (s.staging, s.stagingSet) else if b = 1 then some (s.active, s.activeSet) else none

/-- TABLE-READ: the copy is checked first, then the channel id, then the entry's presence (R10, R164). -/
def workTableRead : Work := fun args s =>
  match args with
  | [k, c] =>
    match copyOf k s, decodeChan c with
    | some copy, some c =>
      match findEntry c copy.1 with
      | none => (.plain .absent, s)
      | some e => (.data (encodeEntry e), s)
    | _, _ => (.plain .range, s)
  | _ => (.plain .length, s)

/-- An entry put into a copy in ascending channel id, in place of one with its id (R6). -/
def putEntry (e : Entry) (copy : List Entry) : List Entry :=
  match copy with
  | [] => [e]
  | x :: rest =>
    if e.id = x.id then e :: rest
    else if e.id < x.id then e :: x :: rest
    else x :: putEntry e rest

/-- TABLE-WRITE: the range check comes before the capacity check (R6, R165). -/
def workTableWrite : Work := fun args s =>
  match decodeEntry args with
  | none => (.plain .range, s)
  | some e =>
    if (findEntry e.id s.staging).isNone ∧ Config.tableCapacity ≤ s.staging.length then (.plain .full, s)
    else (.plain .ok, { s with staging := putEntry e s.staging })

/-- TABLE-DELETE (R7). -/
def workTableDelete : Work := fun args s =>
  match args with
  | [c] =>
    match decodeChan c with
    | none => (.plain .range, s)
    | some c =>
      if (findEntry c s.staging).isNone then (.plain .absent, s)
      else (.plain .ok, { s with staging := s.staging.filter fun e => e.id != c })
  | _ => (.plain .length, s)

/-- SETTINGS-READ (R10, R164). -/
def workSettingsRead : Work := fun args s =>
  match args with
  | [k] =>
    match copyOf k s with
    | none => (.plain .range, s)
    | some copy => (.data (encodeSettings copy.2), s)
  | _ => (.plain .length, s)

/-- SETTINGS-WRITE (R8, R165). -/
def workSettingsWrite : Work := fun args s =>
  match decodeSettings args with
  | none => (.plain .range, s)
  | some r => (.plain .ok, { s with stagingSet := r })

/-- DISCARD (R9). -/
def workDiscard : Work := fun _ s =>
  (.plain .ok, { s with staging := s.active, stagingSet := s.activeSet })

/-- START: refused MODE in RUN and SAFE, NOT_READY in CONFIG with the committed flag clear (R122). -/
def workStart : Work := fun _ s =>
  if s.mode ≠ .config then (.plain .mode, s)
  else if !s.committed then (.plain .notReady, s)
  else (.plain .ok, startSteps s)

/-- STOP: refused MODE in CONFIG (R123). -/
def workStop : Work := fun _ s =>
  if s.mode = .config then (.plain .mode, s) else (.plain .ok, stopSteps s)

/-- SAFE: refused MODE in CONFIG (R126). -/
def workSafe : Work := fun _ s =>
  if s.mode = .config then (.plain .mode, s) else (.plain .ok, addCause .command s)

/-- RESUME: refused MODE in CONFIG (R127). -/
def workResume : Work := fun _ s =>
  if s.mode = .config then (.plain .mode, s) else (.plain .ok, resumeSteps s)

/-- LOG-READ: the k oldest records, k the least of n, the records the log holds, and 3 (R168). -/
def workLogRead : Work := fun args s =>
  match args with
  | [n] =>
    if n = 0 ∨ 4 < n.toNat then (.plain .range, s)
    else
      let k := min (min n.toNat s.log.length) Config.logReadMost
      (⟨.ok, (s.log.take k).flatMap faultOctets, k⟩, s)
  | _ => (.plain .length, s)

/-! ## Taking a request (R155, R158) -/

/-- A request other than COMMIT is taken: its argument length is checked, then it is carried out, and its response is
placed (R158, R159). -/
def carryOut (len : Nat) (work : Work) (req : Request) (s : State) : State :=
  if req.args.length = len then
    finish req (work req.args s).1 (work req.args s).2
  else finish req (.plain .length) s

/-- The mode permits a COMMIT (R11). -/
def commitPermitted (s : State) : Bool :=
  s.mode == .config || (s.activeSet.commitInRun && s.stagingSet == s.activeSet)

/-- A COMMIT is taken: its mode conditions are decided at once, and it stays in WORKING for its validation (R11,
R160). -/
def carryCommit (req : Request) (s : State) : State :=
  if req.args.length = 0 then
    if commitPermitted s then { s with handler := .working req (after s.now (validationTime s)) }
    else finish req (.plain .mode) s
  else finish req (.plain .length) s

/-- A request whose name octet is not 1 to 14 is taken (R158). -/
def carryUnknown (req : Request) (s : State) : State := finish req (.plain .unknown) s

/-- What taking a request does, by its name octet (section 9.3). -/
def carryByName (name : Byte) : Request → State → State :=
  if name = 1 then carryOut 1 workQuery
  else if name = 2 then carryOut 1 workChannelRead
  else if name = 3 then carryOut 2 workTableRead
  else if name = 4 then carryOut 12 workTableWrite
  else if name = 5 then carryOut 1 workTableDelete
  else if name = 6 then carryOut 1 workSettingsRead
  else if name = 7 then carryOut 12 workSettingsWrite
  else if name = 8 then carryCommit
  else if name = 9 then carryOut 0 workDiscard
  else if name = 10 then carryOut 0 workStart
  else if name = 11 then carryOut 0 workStop
  else if name = 12 then carryOut 0 workSafe
  else if name = 13 then carryOut 0 workResume
  else if name = 14 then carryOut 1 workLogRead
  else carryUnknown

/-- A request arrives: its address is checked, and a handler in IDLE takes it while a busy one leaves it to the BUSY
reply (R155, R156). -/
def takeRequest (addr : BitVec 4) (carry : Request → State → State) (req : Request) (s : State) : State :=
  if addr = Config.linkAddress then
    match s.handler with
    | .idle => carry req s
    | .working _ _ => busyReply req s
    | .replying _ _ => busyReply req s
  else count .uMalformed 1 s

/-- A MGMT frame arrives at the U-port as one event (R155): its payload is the request name and the arguments. -/
def mgmtFrame (dt : Nat) (addr : BitVec 4) (tag name : Byte) (args : List Byte)
    (carry : Request → State → State) (s : State) : Host.Outcome State Fault Refusal :=
  event dt (receiveFrame .u (name :: args) (takeRequest addr carry ⟨tag, name, args⟩)) s

/-- The Management Handler's block takes a MGMT frame whatever its payload: an empty one is malformed (R155). -/
def takeMgmt (addr : BitVec 4) (tag : Byte) (payload : List Byte) (s : State) : State :=
  match payload with
  | [] => count .uMalformed 1 s
  | name :: args => takeRequest addr (carryByName name) ⟨tag, name, args⟩ s

end Sys2Proof.Machine
end

