-- ==== Sys2Proof/Machine/StageMonitor.lean ====
section
/-! DEFINITION. The Stage Monitor: REPORT frames and the report timers (Chapter 6). -/

namespace Sys2Proof.Machine

/-- Presence after a REPORT is taken in the mode at the event: unchanged in CONFIG, PRESENT in RUN and SAFE (R109). -/
def reportedPresence (s : State) (r : StageRec) : Presence :=
  if s.mode = .config then r.presence else .present

/-- The report timer after a REPORT is taken: started in RUN and SAFE for a USED stage with a non-zero report timeout,
otherwise as it stands (R109). -/
def reportedTimer (s : State) (st : Stage) (r : StageRec) : Option Time :=
  if s.mode ≠ .config ∧ s.used st ∧ s.activeSet.reportTimeout ≠ 0 then s.reportTimer else r.timer

/-- A well-formed REPORT is taken, in the order of R106: presence and timer, fault flag, ready mask, STAGE hold, mask
change, fault record, forwarding. -/
def takeWellFormedReport (st : Stage) (mask : BitVec 16) (fault : Bool) (f : Frame) (s : State) : State :=
  let old := s.stages.get st
  let new : StageRec :=
    { presence := reportedPresence s old, mask := mask, fault := fault, timer := reportedTimer s st old }
  let s := maskChange st old.mask mask (setStage st new s)
  let s := if fault && !old.fault then makeRecord (.stageFault st) s else s
  if s.upRoom then pushUp f s else count .reportDrop 1 s

/-- The Stage Monitor takes a REPORT frame: an address that is no stage or a payload that is not 3 octets makes it
malformed (R105). -/
def takeReport (addr : BitVec 4) (seq : Byte) (payload : List Byte) (s : State) : State :=
  match stageOf addr, payload with
  | some st, [b1, b2, b3] =>
    takeWellFormedReport st (reportMask b1 b2) (reportFault b3) ⟨.report, addr, seq, payload⟩ s
  | _, _ => count .dMalformed 1 s

/-- REPORT (R106). -/
def execReport (dt : Nat) (addr : BitVec 4) (seq : Byte) (payload : List Byte) (s : State) :
    Host.Outcome State Fault Refusal :=
  event dt (receiveFrame .d payload (takeReport addr seq payload)) s

/-- A stage's report timer expires, in the order of R109: LOST with the timer stopped, the mask cleared, the STAGE hold,
the mask change, the STAGE_LOST record. -/
def reportTimerExpires (st : Stage) (s : State) : State :=
  let old := s.stages.get st
  if timerDue old.timer s.now then
    let s := setStage st { old with presence := .lost, timer := none, mask := 0 } s
    makeRecord (.stageLost st) (maskChange st old.mask 0 s)
  else s

/-- REPORT_TIMER_EXPIRY (R109). -/
def execReportTimerExpiry (dt : Nat) (st : Stage) (s : State) : Host.Outcome State Fault Refusal :=
  event dt (reportTimerExpires st) s

end Sys2Proof.Machine
end

