-- ==== Sys2Proof/Machine/Supervision.lean ====
section
/-! DEFINITION. Supervision: TICK frames and the Tick Monitor's expiries, the zone lines and the Zone Monitors (Chapter 8). -/

namespace Sys2Proof.Machine

/-! ## The Tick Monitor (R136 to R142) -/

/-- The Tick Monitor judges a tick by its state (R136, R138, R140 to R142). -/
def judgeTick (s : State) : State :=
  match s.tick.state with
  | .openFirst => validTick s
  | .opened => validTick s
  | .closed => streamFailure .streamEarly s
  | .off => s
  | .resetting => s
  | .grace => s

/-- A TICK frame: with another address than 15 or with a payload it is malformed (R136). -/
def takeTick (addr : BitVec 4) (payload : List Byte) (s : State) : State :=
  if addr = Config.linkAddress ∧ payload = [] then judgeTick s else count .uMalformed 1 s

/-- TICK (R136); its sequence octet is not judged. -/
def execTick (dt : Nat) (addr : BitVec 4) (_seq : Byte) (payload : List Byte) (s : State) :
    Host.Outcome State Fault Refusal :=
  event dt (receiveFrame .u payload (takeTick addr payload)) s

/-- The window timer's expiry in one of the states given has an effect (R139, R141, R142). -/
def tickExpiry (states : List TickState) (effect : State → State) (s : State) : State :=
  if states.contains s.tick.state && timerDue s.tick.timer s.now then effect s else s

/-- CLOSED_EXPIRY: CLOSED goes to OPEN for the window Tw (R139). -/
def execClosedExpiry (dt : Nat) (s : State) : Host.Outcome State Fault Refusal :=
  event dt (tickExpiry [.closed] fun s => tickTo .opened s.activeSet.tw s) s

/-- LATE_FAILURE: the window of OPEN or OPEN_FIRST expires without a tick (R139, R140). -/
def execLateFailure (dt : Nat) (s : State) : Host.Outcome State Fault Refusal :=
  event dt (tickExpiry [.opened, .openFirst] fun s => streamFailure .streamLate s) s

/-- RESETTING_EXPIRY: RESETTING goes to GRACE; CTLRST follows (R141). -/
def execResettingExpiry (dt : Nat) (s : State) : Host.Outcome State Fault Refusal :=
  event dt (tickExpiry [.resetting] fun s => tickTo .grace s.activeSet.grace s) s

/-- GRACE_EXPIRY: GRACE goes to OPEN_FIRST (R142). -/
def execGraceExpiry (dt : Nat) (s : State) : Host.Outcome State Fault Refusal :=
  event dt (tickExpiry [.grace] tickOpenFirst) s

/-! ## The zone lines and the Zone Monitors (R146 to R151) -/

/-- A zone line takes a level while recognition runs: a level other than the recognised one starts the measurement, the
recognised one ends it (R146). -/
def ZoneUnit.edge (u : ZoneUnit) (high : Bool) (now : Time) : ZoneUnit :=
  { u with
    line := high
    measuring := if high = u.recognised then none else some (u.measuring.getD now) }

/-- A zone line takes a level; while recognition does not run only the pin changes (R119, R130, R146). -/
def lineEdge (z : Zone) (high : Bool) (s : State) : State :=
  let u := s.zones.get z
  if s.inReset || s.mode == .shutdown then { s with zones := s.zones.set z { u with line := high } }
  else { s with zones := s.zones.set z (u.edge high s.now) }

/-- ZONE_LINE_EDGE (R146). During device reset no time passes for the guard, but the pin has its level. -/
def execZoneLineEdge (dt : Nat) (z : Zone) (high : Bool) (s : State) : Host.Outcome State Fault Refusal :=
  if s.inReset then .next (lineEdge z high s) else .next (lineEdge z high (s.advance dt))

/-- The zone timeout of a zone, from now (R147). -/
def State.zoneDue (s : State) (z : Zone) : Option Time :=
  some (after s.now (ms (s.activeSet.zoneTimeout.get z)))

/-- A Zone Monitor acts on a recognised change of its line, rising or falling, in the mode of its zone (R149, R150). -/
def zoneChange (z : Zone) (rising : Bool) (s : State) : State :=
  match s.activeSet.zoneMode.get z, (s.zones.get z).state, rising with
  | .direct, .released, false => setZone z (.blocked .lineLow) none s
  | .direct, .blocked .lineLow, true => setZone z .released none s
  | .toggle, .released, _ => setZone z .released (s.zoneDue z) s
  | .toggle, .blocked .notYet, _ => setZone z .released (s.zoneDue z) s
  | .toggle, .blocked .timeout, _ => setZone z .released (s.zoneDue z) s
  | _, _, _ => s

/-- A measurement that has run for 10 µs ends: the recognised level takes the new level and the change is handed to the
Zone Monitor (R146). -/
def recognise (z : Zone) (s : State) : State :=
  let u := s.zones.get z
  match u.measuring with
  | none => s
  | some t =>
    if hasPassed t Config.recognitionTime s.now then
      zoneChange z (!u.recognised)
        { s with zones := s.zones.set z { u with recognised := !u.recognised, measuring := none } }
    else s

/-- RECOGNISED_CHANGE (R146). -/
def execRecognisedChange (dt : Nat) (z : Zone) (s : State) : Host.Outcome State Fault Refusal :=
  event dt (recognise z) s

/-- The toggle timer of a RELEASED zone expires: BLOCKED (TIMEOUT), the ZONE hold and a ZONE_TIMEOUT record (R150). -/
def toggleExpires (z : Zone) (s : State) : State :=
  let u := s.zones.get z
  if u.state == .released && timerDue u.timer s.now then
    makeRecord (.zoneTimeout z) (setZone z (.blocked .timeout) none s)
  else s

/-- TOGGLE_TIMER_EXPIRY (R150). -/
def execToggleTimerExpiry (dt : Nat) (z : Zone) (s : State) : Host.Outcome State Fault Refusal :=
  event dt (toggleExpires z) s

end Sys2Proof.Machine
end

