-- ==== Sys2Proof/Machine/Link.lean ====
section
/-! DEFINITION. The receivers of the two ports: octets, framing faults, cut-short frames, breaks, and the faults found at the second check octet (R181 to R183). -/

namespace Sys2Proof.Machine

/-- A frame is in progress: from its delimiter to its last check octet (R181). -/
def Receiver.inProgress (r : Receiver) : Bool :=
  match r with
  | .hunt => false
  | .header _ => true
  | .body _ _ _ _ => true
  | .idleWait => false

/-- A port's frame is discarded: the receiver returns to HUNT and one count of the port is increased (R182). -/
def discardFrame (p : Port) (k : Counter) (s : State) : State := count k 1 (setRx p .hunt s)

/-- The octet a frame is damaged in, or the idle line that cuts it short: a frame in progress is discarded as malformed;
in HUNT and IDLE_WAIT there is none (R181, R182). -/
def spoilFrame (p : Port) (s : State) : State :=
  if s.mode != .shutdown && (s.rx.get p).inProgress then discardFrame p (malformedCounter p) s else s

/-- FRAMING_FAULT (R182): a framing fault in the delimiter itself, in HUNT, is dropped without a count. -/
def execFramingFault (dt : Nat) (p : Port) (s : State) : Host.Outcome State Fault Refusal :=
  event dt (spoilFrame p) s

/-- FRAME_CUT_SHORT (R181, R182). -/
def execFrameCutShort (dt : Nat) (p : Port) (s : State) : Host.Outcome State Fault Refusal :=
  event dt (spoilFrame p) s

/-- A frame that comes with its own fault is discarded and counted, wherever its port takes frames (R182, log entry 8). -/
def faultyFrame (p : Port) (k : Counter) (s : State) : State :=
  if s.takesFrames p then discardFrame p k s else s

/-- LENGTH_ABOVE_32 (R182). -/
def execLengthAbove32 (dt : Nat) (p : Port) (s : State) : Host.Outcome State Fault Refusal :=
  event dt (faultyFrame p (malformedCounter p)) s

/-- CRC_FAULT (R182). -/
def execCrcFault (dt : Nat) (p : Port) (s : State) : Host.Outcome State Fault Refusal :=
  event dt (faultyFrame p (crcCounter p)) s

/-- WRONG_KIND (R182). -/
def execWrongKind (dt : Nat) (p : Port) (s : State) : Host.Outcome State Fault Refusal :=
  event dt (faultyFrame p (malformedCounter p)) s

/-- A break is recognised: a frame in progress is discarded and counted once, and the receiver goes to IDLE_WAIT (R183). -/
def breakSeen (p : Port) (s : State) : State :=
  if s.mode = .shutdown then s else setRx p .idleWait (spoilFrame p s)

/-- BREAK (R183). -/
def execBreakBegin (dt : Nat) (p : Port) (s : State) : Host.Outcome State Fault Refusal :=
  event dt (breakSeen p) s

/-- The line returns high after a break: the receiver goes to HUNT (R183). -/
def breakOver (p : Port) (s : State) : State :=
  if s.mode != .shutdown && s.rx.get p == .idleWait then setRx p .hunt s else s

/-- BREAK_END (R183). -/
def execBreakEnd (dt : Nat) (p : Port) (s : State) : Host.Outcome State Fault Refusal :=
  event dt (breakOver p) s

/-! ## Octets (R181, R182) -/

/-- A frame with a correct check is handed to the block that takes its kind at the port, or discarded for its kind
(R180, R182). -/
def handFrame (p : Port) (code : BitVec 4) (addr : BitVec 4) (h1 : Byte) (payload : List Byte) (s : State) : State :=
  match p, kindOf code with
  | .u, some .drive => takeDrive addr h1 payload s
  | .u, some .aux => takeAux addr payload s
  | .u, some .tick => takeTick addr payload s
  | .u, some .mgmt => takeMgmt addr h1 payload s
  | .d, some .report => takeReport addr h1 payload s
  | _, _ => count (malformedCounter p) 1 s

/-- The second check octet has arrived: the CRC is compared, then the kind is judged (R182). -/
def checkFrame (p : Port) (h0 h1 h2 : Byte) (payload : List Byte) (hi lo : Byte) (s : State) : State :=
  if crc (h0 :: h1 :: h2 :: payload) = hi ++ lo then
    handFrame p (h0.extractLsb' 4 4) (h0.extractLsb' 0 4) h1 payload s
  else count (crcCounter p) 1 s

/-- An octet is sampled without a framing fault, by the receiver's state (R181). -/
def sample (p : Port) (b : Byte) (s : State) : State :=
  match s.rx.get p with
  | .idleWait => s
  | .hunt => if b = 0xA5 then setRx p (.header []) s else s
  | .header got =>
    match got with
    | [] => setRx p (.header [b]) s
    | [h0] => setRx p (.header [h0, b]) s
    | h0 :: h1 :: _ =>
      if Config.maxPayload < b.toNat then discardFrame p (malformedCounter p) s
      else setRx p (.body h0 h1 b []) s
  | .body h0 h1 h2 got =>
    if got.length < h2.toNat + 1 then setRx p (.body h0 h1 h2 (got ++ [b])) s
    else
      checkFrame p h0 h1 h2 (got.take h2.toNat) ((got.drop h2.toNat).headD 0) b (setRx p .hunt s)

/-- What ten levels sampled on the line of a port are to its receiver: an octet, or a framing fault (R178, R181). -/
def levelsCommand (dt : Nat) (p : Port) (levels : List Bool) : Instr :=
  match readLevels levels with
  | some b => .octetSampled dt p b
  | none => .framingFault dt p

/-- OCTET_SAMPLED (R181); in SHUTDOWN the receivers take nothing (R130, R183). -/
def execOctetSampled (dt : Nat) (p : Port) (b : Byte) (s : State) : Host.Outcome State Fault Refusal :=
  event dt (fun s => if s.mode = .shutdown then s else sample p b s) s

end Sys2Proof.Machine
end

