-- ==== Sys2Proof/Machine/Management.lean ====
section
/-! DEFINITION. The management requests and the completion of a COMMIT's validation, one meaning each (Chapter 9). -/

namespace Sys2Proof.Machine

/-- QUERY (R161, R162). -/
def execQuery (dt : Nat) (addr : BitVec 4) (tag : Byte) (args : List Byte) (s : State) :
    Host.Outcome State Fault Refusal :=
  mgmtFrame dt addr tag 1 args (carryOut 1 workQuery) s

/-- CHANNEL_READ (R163). -/
def execChannelRead (dt : Nat) (addr : BitVec 4) (tag : Byte) (args : List Byte) (s : State) :
    Host.Outcome State Fault Refusal :=
  mgmtFrame dt addr tag 2 args (carryOut 1 workChannelRead) s

/-- TABLE_READ (R10, R164). -/
def execTableRead (dt : Nat) (addr : BitVec 4) (tag : Byte) (args : List Byte) (s : State) :
    Host.Outcome State Fault Refusal :=
  mgmtFrame dt addr tag 3 args (carryOut 2 workTableRead) s

/-- TABLE_WRITE (R6, R165). -/
def execTableWrite (dt : Nat) (addr : BitVec 4) (tag : Byte) (args : List Byte) (s : State) :
    Host.Outcome State Fault Refusal :=
  mgmtFrame dt addr tag 4 args (carryOut 12 workTableWrite) s

/-- TABLE_DELETE (R7). -/
def execTableDelete (dt : Nat) (addr : BitVec 4) (tag : Byte) (args : List Byte) (s : State) :
    Host.Outcome State Fault Refusal :=
  mgmtFrame dt addr tag 5 args (carryOut 1 workTableDelete) s

/-- SETTINGS_READ (R10, R164). -/
def execSettingsRead (dt : Nat) (addr : BitVec 4) (tag : Byte) (args : List Byte) (s : State) :
    Host.Outcome State Fault Refusal :=
  mgmtFrame dt addr tag 6 args (carryOut 1 workSettingsRead) s

/-- SETTINGS_WRITE (R8, R165). -/
def execSettingsWrite (dt : Nat) (addr : BitVec 4) (tag : Byte) (args : List Byte) (s : State) :
    Host.Outcome State Fault Refusal :=
  mgmtFrame dt addr tag 7 args (carryOut 12 workSettingsWrite) s

/-- COMMIT (R11, R160). -/
def execCommit (dt : Nat) (addr : BitVec 4) (tag : Byte) (args : List Byte) (s : State) :
    Host.Outcome State Fault Refusal :=
  mgmtFrame dt addr tag 8 args carryCommit s

/-- DISCARD (R9). -/
def execDiscard (dt : Nat) (addr : BitVec 4) (tag : Byte) (args : List Byte) (s : State) :
    Host.Outcome State Fault Refusal :=
  mgmtFrame dt addr tag 9 args (carryOut 0 workDiscard) s

/-- START (R122). -/
def execStart (dt : Nat) (addr : BitVec 4) (tag : Byte) (args : List Byte) (s : State) :
    Host.Outcome State Fault Refusal :=
  mgmtFrame dt addr tag 10 args (carryOut 0 workStart) s

/-- STOP (R123). -/
def execStop (dt : Nat) (addr : BitVec 4) (tag : Byte) (args : List Byte) (s : State) :
    Host.Outcome State Fault Refusal :=
  mgmtFrame dt addr tag 11 args (carryOut 0 workStop) s

/-- SAFE (R126). -/
def execSafe (dt : Nat) (addr : BitVec 4) (tag : Byte) (args : List Byte) (s : State) :
    Host.Outcome State Fault Refusal :=
  mgmtFrame dt addr tag 12 args (carryOut 0 workSafe) s

/-- RESUME (R127). -/
def execResume (dt : Nat) (addr : BitVec 4) (tag : Byte) (args : List Byte) (s : State) :
    Host.Outcome State Fault Refusal :=
  mgmtFrame dt addr tag 13 args (carryOut 0 workResume) s

/-- LOG_READ (R168, R175). -/
def execLogRead (dt : Nat) (addr : BitVec 4) (tag : Byte) (args : List Byte) (s : State) :
    Host.Outcome State Fault Refusal :=
  mgmtFrame dt addr tag 14 args (carryOut 1 workLogRead) s

/-- UNKNOWN_REQUEST (R158), a MGMT frame with its whole payload: an empty one is malformed (R155), and a name octet of
1 to 14 is the request it names (log entry 21). -/
def execUnknownRequest (dt : Nat) (addr : BitVec 4) (tag : Byte) (payload : List Byte) (s : State) :
    Host.Outcome State Fault Refusal :=
  event dt (receiveFrame .u payload (takeMgmt addr tag payload)) s

/-- The validation of a COMMIT has ended: INVALID, LIVE, or the install and OK (R12, R14, R15, R20, R160). -/
def completeCommit (req : Request) (s : State) : State :=
  match (validate s).failure with
  | some (c, code) => finish req ⟨.invalid, [octet c.val, code.code], 0⟩ s
  | none =>
    match installCheck s with
    | some c => finish req ⟨.live, [octet c.val], 0⟩ s
    | none => finish req (.plain .ok) (install s)

/-- The validation completion of a COMMIT in WORKING when its due time is reached (R160). -/
def validationCheck (s : State) : State :=
  match s.handler with
  | .working req due => if reached due s.now then completeCommit req s else s
  | .idle => s
  | .replying _ _ => s

/-- VALIDATION_COMPLETION (R160). -/
def execValidationCompletion (dt : Nat) (s : State) : Host.Outcome State Fault Refusal :=
  event dt validationCheck s

end Sys2Proof.Machine
end

