-- ==== Sys2Proof/Machine/Ports.lean ====
section
/-! DEFINITION. The two transmitters: the arbiter's choice, emission completion and the gap of the D-port (Chapter 5), and the head, the frame and the gap of the U-port (R114). -/

namespace Sys2Proof.Machine

/-! ## The D-port transmitter (R92, R93, R98, R99) -/

/-- A record of one age and creation order is older than one of another: the earlier age, and among equal ages the
lower creation order (R93). -/
def isOlder (age1 : Time) (order1 : Nat) (age2 : Time) (order2 : Nat) : Bool :=
  isBefore age1 age2 || (age1 == age2 && decide (order1 < order2))

/-- The age of a record. -/
def EmitRec.age (r : EmitRec) : Time :=
  match r with
  | .set r => r.age
  | .aux r => r.age

/-- The creation order of a record. -/
def EmitRec.order (r : EmitRec) : Nat :=
  match r with
  | .set r => r.order
  | .aux r => r.order

/-- The oldest of a list of records (R93). -/
def oldest (rs : List EmitRec) : Option EmitRec :=
  match rs with
  | [] => none
  | r :: rest =>
    match oldest rest with
    | none => some r
    | some b => if isOlder b.age b.order r.age r.order then some b else some r

/-- The record the arbiter chooses: the oldest URGENT one, or else the oldest among the NORMAL records and the AUX
records (R93). -/
def EmitQueue.choice (q : EmitQueue) : Option EmitRec :=
  match oldest ((q.sets.filter fun r => r.cls == .urgent).map EmitRec.set) with
  | some r => some r
  | none => oldest ((q.sets.filter fun r => r.cls == .normal).map EmitRec.set ++ q.auxs.map EmitRec.aux)

/-- The Emit Queue without a waiting record (R93). -/
def EmitQueue.without (q : EmitQueue) (r : EmitRec) : EmitQueue :=
  match r with
  | .set r => { q with sets := q.sets.erase r }
  | .aux r => { q with auxs := q.auxs.erase r }

/-- The arbiter's choice with the transmitter IDLE: the chosen record leaves the waiting part and is sent with the
downstream sequence, which is then increased (R93, R98). -/
def choose (s : State) : State :=
  if s.emit.dtx = .idle then
    match s.emit.choice with
    | none => s
    | some r =>
      let q := s.emit.without r
      { s with emit := { q with dtx := .sending r q.dseq, dseq := q.dseq + 1 } }
  else s

/-- ARBITER_CHOICE (R93). -/
def execArbiterChoice (dt : Nat) (s : State) : Host.Outcome State Fault Refusal := event dt choose s

/-- The emission completion of the record in transmission: the record ceases to exist, the transmitter goes to GAP, and
the Channel State Unit and then the Charge Sequencer take it (R99). -/
def completeEmission (s : State) : State :=
  match s.emit.dtx with
  | .sending r _ => emissionTaken r { s with emit := { s.emit with dtx := .gap } }
  | .idle => s
  | .gap => s
  | .silent => s

/-- EMISSION_COMPLETION (R99). -/
def execEmissionCompletion (dt : Nat) (s : State) : Host.Outcome State Fault Refusal := event dt completeEmission s

/-- The D-port's gap ends: SILENT when the closed flag is set and nothing waits, IDLE otherwise (R92, R100). -/
def endGap (s : State) : State :=
  if s.emit.dtx = .gap then
    if s.emit.closed ∧ s.emit.sets = [] ∧ s.emit.auxs = [] then
      { s with emit := { s.emit with dtx := .silent } }
    else { s with emit := { s.emit with dtx := .idle } }
  else s

/-- D_PORT_GAP_END (R92). -/
def execDPortGapEnd (dt : Nat) (s : State) : Host.Outcome State Fault Refusal := event dt endGap s

/-! ## The U-port transmitter (R114) -/

/-- A handler that waits in REPLYING places its response (R114, R159). -/
def placeWaiting (s : State) : State :=
  match s.handler with
  | .replying req resp => placeResponse req resp s
  | .idle => s
  | .working _ _ => s

/-- The idle transmitter takes the head of the Upstream Queue, and a waiting response takes the room (R114). -/
def takeUpHead (s : State) : State :=
  match s.utx, s.upQ with
  | .idle, f :: rest => placeWaiting { s with utx := .sending f, upQ := rest }
  | _, _ => s

/-- HEAD_TAKEN (R114). -/
def execHeadTaken (dt : Nat) (s : State) : Host.Outcome State Fault Refusal := event dt takeUpHead s

/-- The last octet of the frame leaves the U-port: the transmitter goes to GAP (R114). -/
def upFrameSent (s : State) : State :=
  match s.utx with
  | .sending _ => { s with utx := .gap }
  | .idle => s
  | .gap => s
  | .silent => s

/-- U_PORT_FRAME_SENT (R114). -/
def execUPortFrameSent (dt : Nat) (s : State) : Host.Outcome State Fault Refusal := event dt upFrameSent s

/-- The U-port's gap ends: IDLE (R114). -/
def upGapEnds (s : State) : State := if s.utx = .gap then { s with utx := .idle } else s

/-- U_PORT_GAP_END (R114). -/
def execUPortGapEnd (dt : Nat) (s : State) : Host.Outcome State Fault Refusal := event dt upGapEnds s

end Sys2Proof.Machine
end

