-- ==== Sys2Proof/Machine/Reset.lean ====
section
/-! DEFINITION. Device reset, its release, the start-up hold and the wake restart (R119 to R121, R131, R132). -/

namespace Sys2Proof.Machine

/-- A zone line at its power-on values with the level of its pin kept; recognition runs from `now`, so a line that is
high is being measured from then on (R146). -/
def ZoneUnit.restart (u : ZoneUnit) (now : Option Time) : ZoneUnit :=
  { line := u.line, recognised := false, measuring := if u.line then now else none, state := .inactive,
    timer := none }

/-- The guard in device reset: everything it was doing is discarded; the pins and the commands outside the block stay
(R119, log entry 9). -/
def inDeviceReset (rstn supplyLow : Bool) (s : State) : State :=
  { State.powerOn with
    pending := s.pending
    rstn := rstn
    supplyLow := supplyLow
    zones := ⟨s.zones.z0.restart none, s.zones.z1.restart none⟩ }

/-- The release of a device reset: power-on values, guard time 0, the start-up hold started, and a quench placed for
the stages 0 to 3 (R120). -/
def release (s : State) : State :=
  quenchAll
    { State.powerOn with
      pending := s.pending
      startupHold := some (after 0 Config.startupHoldTime)
      zones := ⟨s.zones.z0.restart (some 0), s.zones.z1.restart (some 0)⟩ }

/-- DEVICE_RESET (R119). -/
def execDeviceReset (_dt : Nat) (cause : ResetCause) (s : State) : Host.Outcome State Fault Refusal :=
  match cause with
  | .rstn => .next (inDeviceReset true s.supplyLow s)
  | .supply => .next (inDeviceReset s.rstn true s)

/-- RESET_RELEASE (R119, R120): the guard leaves device reset when neither cause of it is left. -/
def execResetRelease (dt : Nat) (cause : ResetCause) (s : State) : Host.Outcome State Fault Refusal :=
  if s.inReset then
    let s := match cause with
      | .rstn => { s with rstn := false }
      | .supply => { s with supplyLow := false }
    if s.inReset then .next s else .next (release s)
  else .next (s.advance dt)

/-- STARTUP_HOLD_EXPIRY (R121): when its due time is reached the hold ends; CTLRST follows. -/
def execStartupHoldExpiry (dt : Nat) (s : State) : Host.Outcome State Fault Refusal :=
  event dt (fun s => if timerDue s.startupHold s.now then { s with startupHold := none } else s) s

/-- A runtime record after a wake restart (R47). -/
def ChanRec.wake (r : ChanRec) : ChanRec :=
  { r with holds := { Holds.none with mode := true }, state := .forced, requested := .off, onTimer := none }

/-- The wake restart (R47, R101, R116, R132). -/
def wakeSteps (s : State) : State :=
  quenchAll
    { s with
      mode := .config
      causes := Causes.none
      startupHold := some (after s.now Config.startupHoldTime)
      shutdownFor := 0
      chans := s.chans.map ChanRec.wake
      pendQ := []
      ctxs := []
      window := ⟨false, 0⟩
      lastRefusal := none
      counts := Counts.zero
      emit := EmitQueue.empty
      stages := ⟨StageRec.initial, StageRec.initial, StageRec.initial, StageRec.initial⟩
      upQ := []
      utx := .idle
      tick := ⟨.off, none, 0⟩
      zones := ⟨s.zones.z0.restart (some s.now), s.zones.z1.restart (some s.now)⟩
      handler := .idle
      rx := ⟨.hunt, .hunt⟩ }

/-- WAKE_RESTART (R131, R132): the low period is measured from the later of the line's fall and SHUTDOWN entry; at
least 2 ms of it is the wake event, a shorter one is discarded. -/
def execWakeRestart (dt low : Nat) (s : State) : Host.Outcome State Fault Refusal :=
  event dt (fun s =>
    if s.mode = .shutdown ∧ Config.wakeLowTime ≤ min low s.shutdownFor then wakeSteps s else s) s

end Sys2Proof.Machine
end

