-- ==== Sys2Proof/Machine/Dispatch.lean ====
section
/-! DEFINITION. The effect of each command on everything but the queue: one direct call of a meaning per constructor. -/

namespace Sys2Proof.Machine

/-- The effect of a command (spec/opcode_table.json). -/
def exec (i : Instr) (s : State) : Host.Outcome State Fault Refusal :=
  match i with
  | .deviceReset dt cause => Sys2Proof.Machine.execDeviceReset dt cause s
  | .resetRelease dt cause => Sys2Proof.Machine.execResetRelease dt cause s
  | .startupHoldExpiry dt => Sys2Proof.Machine.execStartupHoldExpiry dt s
  | .wakeRestart dt low => Sys2Proof.Machine.execWakeRestart dt low s
  | .driveFrame dt addr seq payload => Sys2Proof.Machine.execDriveFrame dt addr seq payload s
  | .auxFrame dt addr seq payload => Sys2Proof.Machine.execAuxFrame dt addr seq payload s
  | .tick dt addr seq payload => Sys2Proof.Machine.execTick dt addr seq payload s
  | .closedExpiry dt => Sys2Proof.Machine.execClosedExpiry dt s
  | .lateFailure dt => Sys2Proof.Machine.execLateFailure dt s
  | .resettingExpiry dt => Sys2Proof.Machine.execResettingExpiry dt s
  | .graceExpiry dt => Sys2Proof.Machine.execGraceExpiry dt s
  | .query dt addr tag args => Sys2Proof.Machine.execQuery dt addr tag args s
  | .channelRead dt addr tag args => Sys2Proof.Machine.execChannelRead dt addr tag args s
  | .tableRead dt addr tag args => Sys2Proof.Machine.execTableRead dt addr tag args s
  | .tableWrite dt addr tag args => Sys2Proof.Machine.execTableWrite dt addr tag args s
  | .tableDelete dt addr tag args => Sys2Proof.Machine.execTableDelete dt addr tag args s
  | .settingsRead dt addr tag args => Sys2Proof.Machine.execSettingsRead dt addr tag args s
  | .settingsWrite dt addr tag args => Sys2Proof.Machine.execSettingsWrite dt addr tag args s
  | .commit dt addr tag args => Sys2Proof.Machine.execCommit dt addr tag args s
  | .discard dt addr tag args => Sys2Proof.Machine.execDiscard dt addr tag args s
  | .start dt addr tag args => Sys2Proof.Machine.execStart dt addr tag args s
  | .stop dt addr tag args => Sys2Proof.Machine.execStop dt addr tag args s
  | .safe dt addr tag args => Sys2Proof.Machine.execSafe dt addr tag args s
  | .resume dt addr tag args => Sys2Proof.Machine.execResume dt addr tag args s
  | .logRead dt addr tag args => Sys2Proof.Machine.execLogRead dt addr tag args s
  | .validationCompletion dt => Sys2Proof.Machine.execValidationCompletion dt s
  | .report dt addr seq payload => Sys2Proof.Machine.execReport dt addr seq payload s
  | .reportTimerExpiry dt stage => Sys2Proof.Machine.execReportTimerExpiry dt stage s
  | .zoneLineEdge dt zone high => Sys2Proof.Machine.execZoneLineEdge dt zone high s
  | .recognisedChange dt zone => Sys2Proof.Machine.execRecognisedChange dt zone s
  | .toggleTimerExpiry dt zone => Sys2Proof.Machine.execToggleTimerExpiry dt zone s
  | .deadEntryTaken dt => Sys2Proof.Machine.execDeadEntryTaken dt s
  | .dwellEntryTaken dt => Sys2Proof.Machine.execDwellEntryTaken dt s
  | .onTimerExpiry dt chan => Sys2Proof.Machine.execOnTimerExpiry dt chan s
  | .clearingTimerExpiry dt target => Sys2Proof.Machine.execClearingTimerExpiry dt target s
  | .chargingExpiry dt target => Sys2Proof.Machine.execChargingExpiry dt target s
  | .settleExpiry dt target => Sys2Proof.Machine.execSettleExpiry dt target s
  | .arbiterChoice dt => Sys2Proof.Machine.execArbiterChoice dt s
  | .emissionCompletion dt => Sys2Proof.Machine.execEmissionCompletion dt s
  | .dPortGapEnd dt => Sys2Proof.Machine.execDPortGapEnd dt s
  | .headTaken dt => Sys2Proof.Machine.execHeadTaken dt s
  | .uPortFrameSent dt => Sys2Proof.Machine.execUPortFrameSent dt s
  | .uPortGapEnd dt => Sys2Proof.Machine.execUPortGapEnd dt s
  | .framingFault dt port => Sys2Proof.Machine.execFramingFault dt port s
  | .lengthAbove32 dt port => Sys2Proof.Machine.execLengthAbove32 dt port s
  | .frameCutShort dt port => Sys2Proof.Machine.execFrameCutShort dt port s
  | .breakBegin dt port => Sys2Proof.Machine.execBreakBegin dt port s
  | .breakEnd dt port => Sys2Proof.Machine.execBreakEnd dt port s
  | .crcFault dt port => Sys2Proof.Machine.execCrcFault dt port s
  | .wrongKind dt port => Sys2Proof.Machine.execWrongKind dt port s
  | .octetSampled dt port octet => Sys2Proof.Machine.execOctetSampled dt port octet s
  | .unknownRequest dt addr tag payload => Sys2Proof.Machine.execUnknownRequest dt addr tag payload s

end Sys2Proof.Machine
end

