-- ==== Sys2Proof/Safety.lean ====
section
/-! DEFINITION. What counts as a safe state of the guard: the laws the spec states of it at every moment, as Booleans over State. -/

namespace Sys2Proof.Machine

/-! ## Emit Queue (R83, R86, R88) -/

/-- No two waiting setting records are of one stage and class (R88). -/
def oneRecordPerClass (rs : List SetRec) : Bool :=
  match rs with
  | [] => true
  | r :: rest => rest.all (fun x => !(x.stage == r.stage && x.cls == r.cls)) && oneRecordPerClass rest

/-- The channels whose settings a list of records holds, with repeats. -/
def listedChans (rs : List SetRec) : List Chan :=
  rs.flatMap fun r => r.settings.map fun x => Chan.of r.stage x.output

/-- A waiting setting record holds a setting or has its quench flag set, and a quench record is URGENT (R86). -/
def SetRec.wellFormed (r : SetRec) : Bool :=
  (r.quench || !r.settings.isEmpty) && (!r.quench || r.cls == .urgent)

/-- The law of the Emit Queue (R83, R86, R88): at most one waiting setting record per stage and class, each channel's
setting in at most one of them and once, no empty record, at most four waiting AUX records. -/
def EmitQueue.tidy (q : EmitQueue) : Bool :=
  oneRecordPerClass q.sets && decide (listedChans q.sets).Nodup && q.sets.all SetRec.wellFormed
    && decide (q.auxs.length ≤ Config.auxCapacity)

/-! ## Modes and holds (R23, R117, R118) -/

/-- The safe cause set is non-empty exactly when the mode is SAFE (R117). -/
def State.causesMatchMode (s : State) : Bool := s.causes.isEmpty != (s.mode == .safe)

/-- A channel is FORCED exactly when its hold set is not empty (R23). -/
def State.forcedMatchesHolds (s : State) : Bool :=
  s.chans.all fun r => (r.state == .forced) != r.holds.isEmpty

/-- The hold every guarded channel carries in a mode: MODE in CONFIG and SHUTDOWN, SAFE in SAFE (R118). -/
def Mode.hold (m : Mode) : Option HoldKind :=
  match m with
  | .config => some .mode
  | .run => none
  | .safe => some .safe
  | .shutdown => some .mode

/-- Every guarded channel carries the hold of the mode (R118). -/
def State.modeHoldsKept (s : State) : Bool :=
  match s.mode.hold with
  | none => true
  | some k => s.chans.all fun r => r.holds.has k

/-! ## Logs, queues and counts (R113, R140, R171, R174) -/

/-- The Fault Log holds at most 16 records, and an overflow count above 0 implies a record (R171, R174). -/
def State.logLaw (s : State) : Bool :=
  decide (s.log.length ≤ Config.logCapacity) && (s.overflow == 0 || !s.log.isEmpty)

/-- The Upstream Queue holds at most 8 frames (R113). -/
def State.upstreamLaw (s : State) : Bool := decide (s.upQ.length ≤ Config.upstreamCapacity)

/-- Whenever the fail limit is non-zero, the fail count does not exceed it (R140). -/
def State.failLaw (s : State) : Bool :=
  s.activeSet.failLimit == 0 || decide (s.tick.fails.toNat ≤ s.activeSet.failLimit.toNat)

/-! ## Tables, runtime records and entries (R2, R22, R25) -/

/-- Channel ids strictly rise along a list. -/
def risingIds (cs : List Chan) : Bool :=
  match cs with
  | [] => true
  | c :: rest => rest.all (fun d => decide (c < d)) && risingIds rest

/-- A copy of the Channel Table: at most 48 entries, in ascending channel id (R2). -/
def tableLaw (copy : List Entry) : Bool :=
  risingIds (copy.map Entry.id) && decide (copy.length ≤ Config.tableCapacity)

/-- One runtime record for each channel of the Active Copy, and none for any other (R22). -/
def State.recordsMatchTable (s : State) : Bool := s.guarded == s.active.map Entry.id

/-- A channel has a pending entry exactly when it is in WAIT or ON_HOLD (R25), and no channel has two. -/
def State.entriesMatchStates (s : State) : Bool :=
  decide (s.pendQ.map PendEntry.chan).Nodup
    && s.pendQ.all (fun e => (s.chan e.chan).any fun r =>
        (r.state == .wait && e.reason != .dwell) || (r.state == .onHold && e.reason == .dwell))
    && s.chans.all fun r => !(r.state == .wait || r.state == .onHold) || (s.pend r.id).isSome

/-- Every precondition of a copy carries an attempt limit of at least 1 (R3). -/
def attemptsLaw (copy : List Entry) : Bool := copy.all fun e => e.precond.all fun p => decide (1 ≤ p.attemptLimit)

/-- In SHUTDOWN the Management Handler is IDLE (R154). -/
def State.shutdownIdle (s : State) : Bool := s.mode != .shutdown || s.handler == .idle

/-- In CONFIG the Tick Monitor is OFF with its fail count 0 (R135, R143). -/
def State.configTickOff (s : State) : Bool :=
  s.mode != .config || (s.tick.state == .off && s.tick.fails == 0)

/-- A COMMIT in WORKING outside CONFIG has a staging Settings Record equal to the active one (R11, R13). -/
def State.workingLaw (s : State) : Bool :=
  match s.handler with
  | .working _ _ => s.mode == .config || (s.mode != .shutdown && s.stagingSet == s.activeSet)
  | .idle => true
  | .replying _ _ => true

/-! ## Pairs and charge contexts (R28, R53, R56) -/

/-- A channel still carries the effective level ON given to it at adoption (R18): no OFF emission of it is known. -/
def State.adoptedOn (s : State) (c : Chan) : Bool :=
  (s.chan c).any fun r => r.effective == .on && r.lastOff.isNone

/-- The pair law of R28 for the two channels of one entry: at most one of them is live, unless both carry the effective
level ON of their adoption; then no ON waits for either. (R14 refuses a new partner to a live channel, so a partner that
is live beside an adopted channel was adopted with it.) -/
def State.pairLawFor (s : State) (c p : Chan) : Bool :=
  !(s.live c && s.live p) || (s.adoptedOn c && s.adoptedOn p && !s.onWaiting c && !s.onWaiting p)

/-- The pair law for every pair in the Active Copy (R28). -/
def State.pairLaw (s : State) : Bool :=
  s.active.all fun e => e.partner.all fun p => s.pairLawFor e.id p

/-- The attempt number of an open context lies between 1 and its attempt limit (R56). -/
def State.attemptLaw (s : State) : Bool :=
  s.ctxs.all fun x => decide (1 ≤ x.attempt) && decide (x.attempt ≤ x.attemptLimit)

/-- A context's phase lends its donor (R45). -/
def Phase.lends (p : Phase) : Bool := p == .donorOn || p == .charging

/-- The target of every open context is PRIMING and every PRIMING channel has a context; a channel is LENT exactly when
it is the donor of a context in DONOR_ON or CHARGING (R53). -/
def State.contextsMatchStates (s : State) : Bool :=
  s.ctxs.all (fun x =>
      (s.chan x.target).any (fun r => r.state == .priming)
        && (s.chan x.donor).any (fun r => r.state == if x.phase.lends then .lent else .off)
        && s.partner x.target == some x.donor)
    && s.chans.all fun r =>
      (r.state != .priming || (s.ctx r.id).isSome)
        && (r.state != .lent || s.ctxs.any fun x => x.donor == r.id && x.phase.lends)

/-- The open contexts stand in ascending target, so that no pair has two (R50). -/
def State.contextsRise (s : State) : Bool := risingIds (s.ctxs.map Ctx.target)

/-- What a phase says of its donor's settings: in CLEARING and SETTLE the donor is not live, and in DONOR_OFF no ON for
it waits, so that its OFF leaves it off (R51, R54, R55, R62). -/
def State.donorsOff (s : State) : Bool :=
  s.ctxs.all fun x =>
    match x.phase with
    | .clearing => !s.live x.donor
    | .donorOn => true
    | .charging => true
    | .donorOff => !s.onWaiting x.donor
    | .settle => !s.live x.donor

/-! ## Requested levels, settings on their way and holds (R14, R23, R30, R41, R111, R151) -/

/-- The requested level a state comes with: ON in WAIT, PRIMING and ON (R23). -/
def ChState.requestedOn (c : ChState) : Bool := c == .wait || c == .priming || c == .on

/-- Every record's requested level is the one of its state (R23). -/
def State.requestsMatchStates (s : State) : Bool := s.chans.all fun r => (r.requested == .on) == r.state.requestedOn

/-- A guarded channel is requested ON (R22). -/
def State.requestedOn (s : State) (c : Chan) : Bool := (s.chan c).any fun r => r.requested == .on

/-- Of no pair are both channels requested ON (R30). -/
def State.oneRequestPerPair (s : State) : Bool :=
  s.active.all fun e => e.partner.all fun p => !(s.requestedOn e.id && s.requestedOn p)

/-- A channel's ON is in transmission or emitted, and no OFF for it is on its way. -/
def State.onSent (s : State) (r : ChanRec) : Bool :=
  (s.onSending r.id || r.effective == .on) && !s.offOnItsWay r.id

/-- A channel in ON has its ON waiting, in transmission or emitted; one in ON_HOLD has it in transmission or emitted
(R23). -/
def State.switchedOnLaw (s : State) : Bool :=
  s.chans.all fun r =>
    match r.state with
    | .on => s.onWaiting r.id || s.onSent r
    | .onHold => s.onSent r
    | _ => true

/-- The partner of a channel in ON or ON_HOLD is not live (R27, R28). -/
def State.partnersOff (s : State) : Bool :=
  s.chans.all fun r => !(r.state == .on || r.state == .onHold) || (s.partner r.id).all fun p => !s.live p

/-- No URGENT record holds an ON (R89). -/
def EmitQueue.urgentIsOff (q : EmitQueue) : Bool :=
  q.sets.all fun r => r.cls == .normal || r.settings.all fun x => x.level == .off

/-- The closed flag is set in SHUTDOWN and clear otherwise (R92, R100). -/
def State.closedInShutdown (s : State) : Bool := s.emit.closed == (s.mode == .shutdown)

/-- The Active Copy passes the validation of R12, which it passed before it was installed (R15). -/
def State.activeValid (s : State) : Bool := (walkEntries s.active s.active).failure.isNone

/-- A guarded channel carries MODE in CONFIG and SHUTDOWN alone, and SAFE in SAFE alone (R41, R118). -/
def State.modeHoldsExact (s : State) : Bool :=
  s.chans.all fun r =>
    r.holds.mode == (s.mode == .config || s.mode == .shutdown) && r.holds.safe == (s.mode == .safe)

/-- A guarded channel carries ZONE exactly while the monitor of its zone is BLOCKED (R41, R151). -/
def State.zoneHoldsMatch (s : State) : Bool :=
  s.chans.all fun r => r.holds.zone == (s.entry r.id).any fun e => s.zoneBlocked e

/-- A guarded channel carries STAGE exactly while its stage is LOST or its fault flag set (R41, R111). -/
def State.stageHoldsMatch (s : State) : Bool :=
  s.chans.all fun r => r.holds.stage == (s.stages.get (Chan.stage r.id)).holdsOff

/-- Each guarded channel has one runtime record, FORCED exactly when its hold set is not empty (R22, R23). -/
def State.recordsLawful (s : State) : Bool := decide s.guarded.Nodup && s.forcedMatchesHolds

/-- The laws of the tables, modes and hold sets together. -/
def State.holdsLawful (s : State) : Bool :=
  tableLaw s.staging && tableLaw s.active && s.activeValid && s.recordsMatchTable && s.recordsLawful
    && s.causesMatchMode && s.modeHoldsExact && s.zoneHoldsMatch && s.stageHoldsMatch && s.shutdownIdle
    && s.closedInShutdown

/-- The laws of the channels, their entries, contexts and settings together. -/
def State.channelsLawful (s : State) : Bool :=
  s.emit.tidy && s.emit.urgentIsOff && s.requestsMatchStates && s.oneRequestPerPair && s.entriesMatchStates
    && s.contextsMatchStates && s.contextsRise && s.donorsOff && s.switchedOnLaw && s.partnersOff && s.pairLaw

/-- The laws that hold the guard's channels together: with them every step keeps the pair law (R28). -/
def State.lawful (s : State) : Bool := s.holdsLawful && s.channelsLawful

/-! ## Words the statements use -/

/-- The guard receives frames at a port: it is not in device reset (R119) nor in SHUTDOWN (R130), and no break holds the
line (R183). -/
def State.receives (s : State) (p : Port) : Prop :=
  s.inReset = false ∧ s.mode ≠ .shutdown ∧ s.rx.get p ≠ .idleWait

/-- The state in which the block that takes a frame finds the guard: `dt` microseconds on, the port's receiver in HUNT. -/
def State.arrived (s : State) (dt : Nat) (p : Port) : State := setRx p .hunt (s.advance dt)

/-- A request addressed to the guard is taken and answered at its own event: the guard receives at the U-port, the
handler is IDLE and the Upstream Queue has room (R155, R159). -/
def State.serves (s : State) : Prop :=
  s.receives .u ∧ s.handler = .idle ∧ s.upQ.length < Config.upstreamCapacity

/-- The state with a response for a request at the tail of the Upstream Queue, its status summary that state's (R157). -/
def State.answered (s : State) (req : Request) (r : Result) (body : List Byte) : State :=
  { s with upQ := s.upQ ++ [respFrame req r body s] }

/-- The state with a response given: at the tail of the Upstream Queue where that has room, else waiting in REPLYING
(R159). -/
def State.replied (s : State) (req : Request) (r : Result) (body : List Byte) : State :=
  if s.upQ.length < 8 then s.answered req r body else { s with handler := .replying req ⟨r, body, 0⟩ }

/-- A request whose work ends at the event of its taking (R159, R160): every one but a COMMIT that the mode permits
(R11). -/
def Request.endsAtOnce (req : Request) (s : State) : Prop :=
  ¬ (req.name = 8 ∧ req.args = [] ∧
    (s.mode = .config ∨ (s.activeSet.commitInRun = true ∧ s.stagingSet = s.activeSet)))

/-- A LOG-READ of 1 to 4 records, whose placing takes records from the log (R168). -/
def Request.takesRecords (req : Request) : Prop := req.name = 14 ∧ ∃ n, req.args = [n] ∧ 1 ≤ n.toNat ∧ n.toNat ≤ 4

/-- The octet of a setting for an output of a stage (R185). -/
def settingFor (c : Chan) (v : Level) : Byte := settingOctet ⟨Chan.output c, v⟩

/-- The address of a channel's stage. -/
def addrOf (c : Chan) : BitVec 4 := BitVec.ofNat 4 (Chan.stage c).val

/-- The state a DRIVE frame of the next sequence leaves before its settings are dealt with: the frame has arrived and
the window has moved to its sequence (R73). -/
def State.windowed (s : State) (dt : Nat) (seq : Byte) : State :=
  { s.arrived dt .u with window := ⟨true, seq⟩ }

/-- A state from which a frame of the next sequence, arriving at once, is split in `u`, a state that a receiver in HUNT
and a synchronised window have reached (R73); the frame's own event brings the model's event number back (log
entry 18). -/
def State.beforeFrame (u : State) : State := { u with window := ⟨false, 0⟩, eventNo := u.eventNo - 1 }

/-- A DRIVE frame of this sequence is accepted without a gap: the window is unsynchronised, or one behind it (R73). -/
def State.expects (s : State) (seq : Byte) : Prop :=
  s.receives .u ∧ (s.mode = .run ∨ s.mode = .safe) ∧ (s.window.synced = false ∨ seq = s.window.last + 1)

/-- A quench record of a stage waits (R90). -/
def State.quenchWaits (s : State) (st : Stage) : Prop := ∃ r ∈ s.emit.sets, r.stage = st ∧ r.quench = true

/-- A guarded channel that is FORCED and carries a hold. -/
def ChanRec.heldBy (r : ChanRec) (k : HoldKind) : Prop := r.state = .forced ∧ r.holds.has k = true

/-- Every stage has a quench record waiting, and no setting record that is not a quench record waits (R90, R123, R124). -/
def State.onlyQuenches (s : State) : Prop :=
  (∀ st, s.quenchWaits st) ∧ ∀ r ∈ s.emit.sets, r.quench = true

/-- The parts of the Emit Queue that no placing of a setting or quench reaches (R88, R90). -/
def EmitQueue.sameLine (q q' : EmitQueue) : Prop :=
  q'.auxs = q.auxs ∧ q'.dtx = q.dtx ∧ q'.dseq = q.dseq ∧ q'.closed = q.closed

/-- What emission completions alone write in a runtime record (R33). -/
def ChanRec.emission (r : ChanRec) : Chan × Level × Option Time × Option Time :=
  (r.id, r.effective, r.lastOff, r.onTime)

/-- No runtime record is made or discarded, and none has its effective level or its emission times changed. -/
def State.sameEmissions (s t : State) : Prop :=
  t.chans.map ChanRec.emission = s.chans.map ChanRec.emission

/-- Every channel that carried no hold has lost its pending entry and its part in a charge context, its on-timer is
stopped and its requested level is OFF (R42). -/
def State.freed (s t : State) : Prop :=
  ∀ c r, s.chan c = some r → r.holds.isEmpty = true →
    t.pend c = none ∧ t.ctxWith c = none ∧
      ∃ r', t.chan c = some r' ∧ r'.requested = .off ∧ r'.onTimer = none

/-- A zone line right after the release of a device reset: a high line is being measured from guard time 0 (R146). -/
def ZoneUnit.atRelease (high : Bool) : ZoneUnit :=
  ⟨high, false, if high then some 0 else none, .inactive, none⟩

/-- A zone line right after a wake restart at `now` (R146, R147). -/
def ZoneUnit.atWake (high : Bool) (now : Time) : ZoneUnit :=
  ⟨high, false, if high then some now else none, .inactive, none⟩

/-- A quench record with an empty settings list (R90). -/
def SetRec.quenchOf (st : Stage) (age : Time) (order : Nat) : SetRec := ⟨st, .urgent, true, [], age, order⟩

/-- The outcomes of R27 for channel X in `w`, the state without any entry or order of X: what step 1 to 5 leave. -/
def onPathLaw (c : Chan) (seq : Byte) (w t : State) (e : Entry) : Prop :=
  match e.partner with
  | none => t = setState c .on .on (place c .on .normal w)
  | some p =>
    if w.live p ∨ w.offOnItsWay p then t = fileUndated c .partner seq (setState c .wait .on w)
    else
      match (w.chan p).bind ChanRec.lastOff with
      | none => t = fileUndated c .partner seq (setState c .wait .on w)
      | some off =>
        if ¬ hasPassed off e.deadTime w.now then
          t = fileDated c .dead (after off e.deadTime) seq (setState c .wait .on w)
        else
          match e.precond with
          | none => t = setState c .on .on (place c .on .normal w)
          | some pre =>
            if w.ready c then t = setState c .on .on (place c .on .normal w)
            else primeLaw c p e pre w t
where
  /-- The outcomes of step 4 of R27 by R51 and R52, for a pair without an open context. -/
  primeLaw (c p : Chan) (e : Entry) (pre : Precond) (w t : State) : Prop :=
    let u := setState c .priming .on w
    let x : Ctx := ⟨c, p, .clearing, 1, pre.chargeTime, pre.attemptLimit, e.deadTime, none⟩
    w.ctx c = none →
      if (w.chan p).any (fun r => !r.holds.isEmpty) then
        let v := makeRecord (.chargeFail c 0) u
        t = match e.policy with
          | .lock => addHold .lock c v
          | .safe => addCause .charge (setState c .off .off v)
      else if w.live c ∨ w.offOnItsWay c then t = { u with ctxs := insertCtx x w.ctxs }
      else
        ∀ off, (w.chan c).bind ChanRec.lastOff = some off →
          if hasPassed off e.deadTime w.now then
            t = { setState p .lent .off (stopOnTimer p (place p .on .normal u)) with
                  ctxs := insertCtx { x with phase := .donorOn } w.ctxs }
          else t = { u with ctxs := insertCtx { x with timer := some (after off e.deadTime) } w.ctxs }

/-- What a judging of the clearing condition of context `x` makes of `w` (R52): no timer while the target is live or an
OFF for it is on its way; else the donor is lent (R53), or the timer runs to the end of the dead time. -/
def clearingLaw (x : Ctx) (w t : State) : Prop :=
  if w.live x.target ∨ w.offOnItsWay x.target then t = modCtx x.target (fun y => { y with timer := none }) w
  else
    ∀ off, (w.chan x.target).bind ChanRec.lastOff = some off →
      t = if hasPassed off x.deadTime w.now then
          modCtx x.target (fun y => { y with phase := .donorOn, timer := none })
            (setState x.donor .lent .off (stopOnTimer x.donor (place x.donor .on .normal w)))
        else modCtx x.target (fun y => { y with timer := some (after off x.deadTime) }) w

/-- What the SETTLE expiry of context `x` makes of `w` (R56, R57): success, the next attempt, or charge failure. -/
def settleLaw (x : Ctx) (w t : State) : Prop :=
  let next : Ctx := { x with attempt := x.attempt + 1, phase := .clearing, timer := none }
  let failed := makeRecord (.chargeFail x.target x.attemptLimit) (closeCtx x.target w)
  (w.ready x.target = true → t = setState x.target .on .on (place x.target .on .normal (closeCtx x.target w))) ∧
  (w.ready x.target = false → x.attempt < x.attemptLimit →
    clearingLaw next (modCtx x.target (fun _ => next) w) t) ∧
  (w.ready x.target = false → x.attemptLimit ≤ x.attempt → ∀ e, w.entry x.target = some e →
    t = match e.policy with
      | .lock => addHold .lock x.target failed
      | .safe => addCause .charge (setState x.target .off .off failed))

/-- The Fault Log and its overflow count after records of these kinds are made one after another at `now` (R173): each
joins while fewer than 16 stand, and is counted otherwise, up to 255. -/
def State.logged (s : State) (now : Time) (kinds : List FaultKind) : List FaultRec × BitVec 8 :=
  let room := 16 - s.log.length
  (s.log ++ (kinds.take room).map (FaultRec.mk now),
    BitVec.ofNat 8 (min 255 (s.overflow.toNat + (kinds.drop room).length)))

/-- The waiting setting record of a stage and class; there is one at the most (R88). -/
def EmitQueue.recordOf (q : EmitQueue) (st : Stage) (k : EmitClass) : Option SetRec := q.sets.find? fun r => r.isOf st k

/-! ## The conditions of a COMMIT (R12, R14) -/

/-- The condition of each check of R12 for an entry of a copy, by itself. -/
def Entry.fails (copy : List Entry) (e : Entry) (k : CheckCode) : Prop :=
  match k with
  | .precondUnpaired => e.partner = none ∧ e.precond ≠ none
  | .partnerSelf => e.partner = some e.id
  | .partnerMissing => ∃ p, e.partner = some p ∧ findEntry p copy = none
  | .partnerStage => ∃ p, e.partner = some p ∧ Chan.stage p ≠ Chan.stage e.id
  | .partnerAsymmetric => ∃ p q, e.partner = some p ∧ findEntry p copy = some q ∧ q.partner ≠ some e.id
  | .deadMismatch => ∃ p q, e.partner = some p ∧ findEntry p copy = some q ∧ q.deadTime ≠ e.deadTime
  | .zoneMismatch => ∃ p q, e.partner = some p ∧ findEntry p copy = some q ∧ q.zone ≠ e.zone
  | .precondBoth => ∃ p q, e.partner = some p ∧ findEntry p copy = some q ∧ q.precond ≠ none ∧ e.precond ≠ none

/-- An entry of the Active Copy fails the install check (R14): in OFF or FORCED when it is live and its partner changes,
in any other state unless it keeps an entry with the same partner and a precondition as before. -/
def State.failsInstall (s : State) (e : Entry) : Prop :=
  ∃ r, s.chan e.id = some r ∧
    if r.state = .off ∨ r.state = .forced then
      s.live e.id = true ∧ ∃ n, findEntry e.id s.staging = some n ∧ n.partner ≠ e.partner
    else
      ¬ ∃ n, findEntry e.id s.staging = some n ∧ n.partner = e.partner ∧ (n.precond = none ↔ e.precond = none)

/-! ## Layouts (R186 to R188, R190, R191) -/

/-- The number some octets carry, high octet first (section 11.5). -/
def number (bs : List Byte) : Nat := bs.foldl (fun n b => n * 256 + b.toNat) 0

/-- Octet `n` of some data, counted from 1. -/
def octetOf (bs : List Byte) (n : Nat) : Byte := bs.getD (n - 1) 0

/-- The number that octets `m` to `n` of some data carry. -/
def octetsOf (bs : List Byte) (m n : Nat) : Nat := number ((bs.drop (m - 1)).take (n + 1 - m))

/-- The number in bits `hi` to `lo` of an octet. -/
def field (b : Byte) (hi lo : Nat) : Nat := b.toNat / 2 ^ lo % 2 ^ (hi + 1 - lo)

/-- The twelve octets of a table entry, octet by octet (R186). -/
def entryLayout (e : Entry) (bs : List Byte) : Prop :=
  bs.length = 12 ∧ octetsOf bs 1 1 = e.id.val ∧
  octetsOf bs 2 2 = (match e.partner with
    | none => 0xFF
    | some p => p.val) ∧
  octetsOf bs 3 4 = e.deadTime ∧ octetsOf bs 5 6 = e.minDwell ∧ octetsOf bs 7 8 = e.maxOn.getD 0 ∧
  octetsOf bs 9 9 = (match e.zone with
    | none => 0
    | some z => z.val + 1) ∧
  (match e.precond with
    | none => octetsOf bs 10 10 = 0 ∧ octetsOf bs 11 11 = 0
    | some p => octetsOf bs 10 10 * 10 = p.chargeTime ∧ octetsOf bs 11 11 = p.attemptLimit) ∧
  octetsOf bs 12 12 = (match e.policy with
    | .lock => 0
    | .safe => 1)

/-- The twelve octets of a Settings Record, octet by octet (R187). -/
def settingsLayout (r : Settings) (bs : List Byte) : Prop :=
  let zoneMode : ZoneMode → Nat := fun m => match m with
    | .off => 0
    | .direct => 1
    | .toggle => 2
  bs.length = 12 ∧
  octetsOf bs 1 1 = (match r.passPolicy with
    | .closed => 0
    | .opened => 1) ∧
  octetsOf bs 2 2 = r.tmin ∧ octetsOf bs 3 3 = r.tw ∧ octetsOf bs 4 4 * 10 = r.grace ∧
  octetsOf bs 5 5 = r.failLimit.toNat ∧ octetsOf bs 6 6 = r.resetPulse ∧ octetsOf bs 7 7 = r.reportTimeout ∧
  octetsOf bs 8 8 = zoneMode r.zoneMode.z0 ∧ octetsOf bs 9 9 = zoneMode r.zoneMode.z1 ∧
  octetsOf bs 10 10 = r.zoneTimeout.z0 ∧ octetsOf bs 11 11 = r.zoneTimeout.z1 ∧
  octetsOf bs 12 12 = if r.commitInRun then 1 else 0

/-- The ranges of a table entry's fields (R3, R6). -/
def Entry.inRange (e : Entry) : Prop :=
  e.deadTime ≤ 1023 ∧ e.minDwell ≤ 50000 ∧ (∀ m, e.maxOn = some m → 1 ≤ m ∧ m ≤ 60000) ∧
  ∀ p, e.precond = some p → p.chargeTime % 10 = 0 ∧ 10 ≤ p.chargeTime ∧ p.chargeTime ≤ 2000 ∧
    1 ≤ p.attemptLimit ∧ p.attemptLimit ≤ 7

/-- The ranges of a Settings Record's fields (R4, R8). -/
def Settings.inRange (r : Settings) : Prop :=
  r.tmin ≤ 250 ∧ 1 ≤ r.tw ∧ r.tw ≤ 250 ∧ r.grace % 10 = 0 ∧ 10 ≤ r.grace ∧ r.grace ≤ 2550 ∧ r.resetPulse ≤ 250 ∧
  r.reportTimeout ≤ 250 ∧ 1 ≤ r.zoneTimeout.z0 ∧ r.zoneTimeout.z0 ≤ 250 ∧ 1 ≤ r.zoneTimeout.z1 ∧
  r.zoneTimeout.z1 ≤ 250

/-- The eight octets of a fault record: its kind, its time, and the fields its kind carries (R172, R188). -/
def faultLayout (f : FaultRec) (bs : List Byte) : Prop :=
  let fields := fun (kind chan stage zone last : Nat) =>
    octetsOf bs 1 1 = kind ∧ octetsOf bs 6 6 = chan ∧ field (octetOf bs 7) 7 4 = stage ∧
      field (octetOf bs 7) 3 0 = zone ∧ octetsOf bs 8 8 = last
  bs.length = 8 ∧ octetsOf bs 2 5 = f.time.toNat ∧
  match f.kind with
  | .streamEarly => fields 1 0xFF 0xF 0xF 0
  | .streamLate => fields 2 0xFF 0xF 0xF 0
  | .streamLimit => fields 3 0xFF 0xF 0xF 0
  | .zoneTimeout z => fields 4 0xFF 0xF z.val 0
  | .stageLost st => fields 5 0xFF st.val 0xF 0
  | .stageFault st => fields 6 0xFF st.val 0xF 0
  | .chargeFail c n => fields 7 c.val (c.val / 16) 0xF n
  | .conflict c seq => fields 8 c.val (c.val / 16) 0xF seq.toNat
  | .truncated c => fields 9 c.val (c.val / 16) 0xF 0

/-- The eighteen octets of QUERY section 0 for a state (R190). -/
def section0Layout (s : State) (bs : List Byte) : Prop :=
  let o := octetOf bs
  let zoneOctet := fun (b : Byte) (u : ZoneUnit) =>
    (field b 1 0, field b 3 2) = (match u.state with
      | .inactive => (0, 0)
      | .released => (1, 0)
      | .blocked .lineLow => (2, 1)
      | .blocked .notYet => (2, 2)
      | .blocked .timeout => (2, 3)) ∧
    b.getLsbD 4 = u.recognised ∧ field b 7 5 = 0
  bs.length = 18 ∧ octetsOf bs 1 4 = s.now.toNat ∧
  field (o 5) 1 0 = (match s.mode with
    | .config => 0
    | .run => 1
    | .safe => 2
    | .shutdown => 3) ∧
  (o 5).getLsbD 2 = s.causes.stream ∧ (o 5).getLsbD 3 = s.causes.command ∧ (o 5).getLsbD 4 = s.causes.charge ∧
  (o 5).getLsbD 5 = s.committed ∧ field (o 5) 7 6 = 0 ∧
  field (o 6) 2 0 = (match s.tick.state with
    | .off => 0
    | .openFirst => 1
    | .closed => 2
    | .opened => 3
    | .resetting => 4
    | .grace => 5) ∧
  field (o 6) 3 3 = 0 ∧ field (o 6) 7 4 = s.tick.fails.toNat ∧
  zoneOctet (o 7) s.zones.z0 ∧ zoneOctet (o 8) s.zones.z1 ∧
  (o 9).toNat = s.pendQ.length ∧
  field (o 10) 7 4 = s.emit.sets.length ∧ field (o 10) 3 0 = s.emit.sets.countP (fun r => r.cls == .urgent) ∧
  field (o 11) 7 4 = s.emit.sets.countP (fun r => r.quench) ∧ field (o 11) 3 0 = s.emit.auxs.length ∧
  (field (o 12) 7 6, field (o 12) 5 4, field (o 12) 3 0) = (match s.emit.dtx with
    | .idle => (0, 0, 0)
    | .sending (.set r) _ => (1, r.stage.val, if r.quench then 7 else 1)
    | .sending (.aux r) _ => (1, r.stage.val, 2)
    | .gap => (2, 0, 0)
    | .silent => (3, 0, 0)) ∧
  (o 13).toNat = s.upQ.length ∧ (o 14).toNat = s.log.length ∧ o 15 = s.overflow ∧
  match s.lastRefusal with
  | none => o 16 = 0xFF ∧ o 17 = 0 ∧ o 18 = 0
  | some r => (o 16).toNat = r.chan.val ∧ o 17 = r.seq ∧ o 18 = (match r.reason with
    | .held => 1
    | .conflict => 2
    | .closed => 3
    | .mode => 4)

/-- The seven octets of each stage in QUERY section 1 (R190). -/
def section1Layout (s : State) (bs : List Byte) : Prop :=
  bs.length = 28 ∧ ∀ st : Stage,
    let o := fun n => octetOf bs (7 * st.val + n)
    let r := s.stages.get st
    (o 1).getLsbD 0 = s.used st ∧
    field (o 1) 2 1 = (match r.presence with
      | .silent => 0
      | .present => 1
      | .lost => 2) ∧
    (o 1).getLsbD 3 = r.fault ∧ (o 1).getLsbD 4 = r.timer.isSome ∧ field (o 1) 7 5 = 0 ∧
    (∀ n : Output, r.mask.getLsbD n.val = if 8 ≤ n.val then (o 2).getLsbD (n.val - 8) else (o 3).getLsbD n.val) ∧
    octetsOf bs (7 * st.val + 4) (7 * st.val + 7) = (r.timer.getD 0).toNat

/-- QUERY sections 2 and 3: the counts, two octets each (R162, R190). -/
def countsLayout (counts : List (BitVec 16)) (bs : List Byte) : Prop :=
  bs.length = 2 * counts.length ∧
    ∀ i, i < counts.length → octetsOf bs (2 * i + 1) (2 * i + 2) = (counts.getD i 0).toNat

/-- The 29 octets of a CHANNEL-READ for a record in a state (R191). -/
def channelLayout (r : ChanRec) (s : State) (bs : List Byte) : Prop :=
  let o := octetOf bs
  let entry := s.pend r.id
  let ctx := s.ctxWith r.id
  let time := fun (t : Option Time) => (t.getD 0).toNat
  bs.length = 29 ∧
  field (o 1) 2 0 = (match r.state with
    | .off => 0
    | .wait => 1
    | .priming => 2
    | .on => 3
    | .onHold => 4
    | .lent => 5
    | .forced => 6) ∧
  (o 1).getLsbD 3 = (r.requested == .on) ∧ (o 1).getLsbD 4 = (r.effective == .on) ∧
  (o 1).getLsbD 5 = r.lastOff.isSome ∧ (o 1).getLsbD 6 = r.onTime.isSome ∧ (o 1).getLsbD 7 = r.onTimer.isSome ∧
  (o 2).getLsbD 0 = r.holds.mode ∧ (o 2).getLsbD 1 = r.holds.safe ∧ (o 2).getLsbD 2 = r.holds.zone ∧
  (o 2).getLsbD 3 = r.holds.stage ∧ (o 2).getLsbD 4 = r.holds.lock ∧
  ((o 2).getLsbD 5, field (o 2) 7 6) = (match entry.map PendEntry.reason with
    | none => (false, 0)
    | some .dead => (true, 1)
    | some .partner => (true, 2)
    | some .dwell => (false, 3)) ∧
  (o 3).getLsbD 0 = entry.any (fun e => e.due.isSome) ∧
  field (o 3) 3 1 = (match ctx.map Ctx.phase with
    | none => 0
    | some .clearing => 1
    | some .donorOn => 2
    | some .charging => 3
    | some .donorOff => 4
    | some .settle => 5) ∧
  (o 3).getLsbD 4 = ctx.any (fun x => x.donor == r.id) ∧ (o 3).getLsbD 5 = ctx.any (fun x => x.timer.isSome) ∧
  field (o 3) 7 6 = 0 ∧
  field (o 4) 2 0 = (ctx.map Ctx.attempt).getD 0 ∧ field (o 4) 3 3 = 0 ∧
  field (o 4) 6 4 = (ctx.map Ctx.attemptLimit).getD 0 ∧ field (o 4) 7 7 = 0 ∧
  octetsOf bs 5 8 = time r.lastOff ∧ octetsOf bs 9 12 = time r.onTime ∧ octetsOf bs 13 16 = time r.onTimer ∧
  octetsOf bs 17 20 = time (entry.bind PendEntry.due) ∧ o 21 = (entry.map PendEntry.seq).getD 0 ∧
  (o 22).toNat = ((ctx.map fun x => if x.donor = r.id then x.target.val else x.donor.val).getD 0) ∧
  (o 23).toNat * 10 = (ctx.map Ctx.chargeTime).getD 0 ∧ octetsOf bs 24 25 = (ctx.map Ctx.deadTime).getD 0 ∧
  octetsOf bs 26 29 = time (ctx.bind Ctx.timer)

end Sys2Proof.Machine

namespace Sys2Proof

open Machine

/-! ## Commands by what they are -/

/-- The commands that reach a receiver: frames, and what the receivers find on their lines (R180, R182). -/
def Instr.fromLink (i : Instr) : Bool :=
  match i with
  | .driveFrame _ _ _ _ => true
  | .auxFrame _ _ _ _ => true
  | .tick _ _ _ _ => true
  | .query _ _ _ _ => true
  | .channelRead _ _ _ _ => true
  | .tableRead _ _ _ _ => true
  | .tableWrite _ _ _ _ => true
  | .tableDelete _ _ _ _ => true
  | .settingsRead _ _ _ _ => true
  | .settingsWrite _ _ _ _ => true
  | .commit _ _ _ _ => true
  | .discard _ _ _ _ => true
  | .start _ _ _ _ => true
  | .stop _ _ _ _ => true
  | .safe _ _ _ _ => true
  | .resume _ _ _ _ => true
  | .logRead _ _ _ _ => true
  | .report _ _ _ _ => true
  | .framingFault _ _ => true
  | .lengthAbove32 _ _ => true
  | .frameCutShort _ _ => true
  | .breakBegin _ _ => true
  | .breakEnd _ _ => true
  | .crcFault _ _ => true
  | .wrongKind _ _ => true
  | .octetSampled _ _ _ => true
  | .unknownRequest _ _ _ _ => true
  | .deviceReset _ _ => false
  | .resetRelease _ _ => false
  | .startupHoldExpiry _ => false
  | .wakeRestart _ _ => false
  | .closedExpiry _ => false
  | .lateFailure _ => false
  | .resettingExpiry _ => false
  | .graceExpiry _ => false
  | .validationCompletion _ => false
  | .reportTimerExpiry _ _ => false
  | .zoneLineEdge _ _ _ => false
  | .recognisedChange _ _ => false
  | .toggleTimerExpiry _ _ => false
  | .deadEntryTaken _ => false
  | .dwellEntryTaken _ => false
  | .onTimerExpiry _ _ => false
  | .clearingTimerExpiry _ _ => false
  | .chargingExpiry _ _ => false
  | .settleExpiry _ _ => false
  | .arbiterChoice _ => false
  | .emissionCompletion _ => false
  | .dPortGapEnd _ => false
  | .headTaken _ => false
  | .uPortFrameSent _ => false
  | .uPortGapEnd _ => false

/-- The commands that act on the guard even in device reset: its own two, and a zone line's level (R119). -/
def Instr.actsInReset (i : Instr) : Bool :=
  match i with
  | .deviceReset _ _ => true
  | .resetRelease _ _ => true
  | .zoneLineEdge _ _ _ => true
  | _ => false

/-- The address and the request of a MGMT frame, where the command is one with a payload (R155). -/
def Instr.mgmt (i : Instr) : Option (BitVec 4 × Request) :=
  match i with
  | .query _ a tag args => some (a, ⟨tag, 1, args⟩)
  | .channelRead _ a tag args => some (a, ⟨tag, 2, args⟩)
  | .tableRead _ a tag args => some (a, ⟨tag, 3, args⟩)
  | .tableWrite _ a tag args => some (a, ⟨tag, 4, args⟩)
  | .tableDelete _ a tag args => some (a, ⟨tag, 5, args⟩)
  | .settingsRead _ a tag args => some (a, ⟨tag, 6, args⟩)
  | .settingsWrite _ a tag args => some (a, ⟨tag, 7, args⟩)
  | .commit _ a tag args => some (a, ⟨tag, 8, args⟩)
  | .discard _ a tag args => some (a, ⟨tag, 9, args⟩)
  | .start _ a tag args => some (a, ⟨tag, 10, args⟩)
  | .stop _ a tag args => some (a, ⟨tag, 11, args⟩)
  | .safe _ a tag args => some (a, ⟨tag, 12, args⟩)
  | .resume _ a tag args => some (a, ⟨tag, 13, args⟩)
  | .logRead _ a tag args => some (a, ⟨tag, 14, args⟩)
  | .unknownRequest _ a tag payload =>
    match payload with
    | [] => none
    | name :: args => some (a, ⟨tag, name, args⟩)
  | _ => none

/-- The argument length of a request by its name octet (section 9.3). -/
def argumentLength (name : Byte) : Nat :=
  if name = 1 ∨ name = 2 ∨ name = 5 ∨ name = 6 ∨ name = 14 then 1
  else if name = 3 then 2 else if name = 4 ∨ name = 7 then 12 else 0

/-- The commands whose outcome the staging side decides or whose effect is on it: its reads, its edits, COMMIT with its
completion, what may carry one of these as octets or whole, and the device reset that clears it (R5). -/
def Instr.meetsStaging (i : Instr) : Bool :=
  match i with
  | .tableRead _ _ _ _ => true
  | .settingsRead _ _ _ _ => true
  | .tableWrite _ _ _ _ => true
  | .tableDelete _ _ _ _ => true
  | .settingsWrite _ _ _ _ => true
  | .discard _ _ _ _ => true
  | .commit _ _ _ _ => true
  | .validationCompletion _ => true
  | .octetSampled _ _ _ => true
  | .unknownRequest _ _ _ _ => true
  | .deviceReset _ _ => true
  | .resetRelease _ _ => true
  | _ => false

end Sys2Proof

namespace Sys2Proof.Machine

/-! ## Frames as octets, and runs -/

/-- The command a received frame of a port is: the frame of its kind, or WRONG_KIND (R180, R182). A MGMT frame is given
with its whole payload (log entry 21). -/
def Frame.command (p : Port) (f : Frame) : Instr :=
  match p, f.kind with
  | .u, .drive => .driveFrame 0 f.addr f.seq f.payload
  | .u, .aux => .auxFrame 0 f.addr f.seq f.payload
  | .u, .tick => .tick 0 f.addr f.seq f.payload
  | .u, .mgmt => .unknownRequest 0 f.addr f.seq f.payload
  | .d, .report => .report 0 f.addr f.seq f.payload
  | _, _ => .wrongKind 0 p

/-- Octets sampled one after another at one guard time (R181). -/
def sampleAll (p : Port) (bs : List Byte) (s : State) : Host.Outcome State Fault Refusal :=
  match bs with
  | [] => .next s
  | b :: rest =>
    match exec (.octetSampled 0 p b) s with
    | .next t => sampleAll p rest t
    | .fault f => .fault f
    | .refused r => .refused r

/-- The state after `n` steps, where each answers a next state. -/
def stepsFrom (n : Nat) (s : State) : Option State :=
  match n with
  | 0 => some s
  | n + 1 =>
    match step s with
    | .next t => stepsFrom n t
    | .fault _ => none
    | .refused _ => none

end Sys2Proof.Machine
end

