-- ==== Sys2Proof/WellFormed.lean ====
section
/-! DEFINITION. Which commands are well formed: intervals shorter than R1's bound, payloads a frame can carry, and an UNKNOWN_REQUEST whose name octet is unknown. -/

namespace Sys2Proof

/-- An interval between events stays below 2^31 µs, so that R1's comparisons order the times (R1). -/
def dtWellFormed (dt : Nat) : Bool := decide (dt < 2 ^ 31)

/-- A payload a frame can carry: at most 32 octets (R179). -/
def payloadWellFormed (payload : List Byte) : Bool := decide (payload.length ≤ Config.maxPayload)

/-- The arguments of a request: the payload less its name octet (R158). -/
def argsWellFormed (args : List Byte) : Bool := decide (args.length < Config.maxPayload)

/-- The payload of an UNKNOWN_REQUEST: empty, or with a name octet other than 1 to 14 (R158). -/
def unknownPayload (payload : List Byte) : Bool :=
  match payload with
  | [] => true
  | name :: _ => name == 0 || decide (14 < name.toNat)

/-- The interval a command carries. -/
def Instr.dt (i : Instr) : Nat :=
  match i with
  | .deviceReset dt _ => dt
  | .resetRelease dt _ => dt
  | .startupHoldExpiry dt => dt
  | .wakeRestart dt _ => dt
  | .driveFrame dt _ _ _ => dt
  | .auxFrame dt _ _ _ => dt
  | .tick dt _ _ _ => dt
  | .closedExpiry dt => dt
  | .lateFailure dt => dt
  | .resettingExpiry dt => dt
  | .graceExpiry dt => dt
  | .query dt _ _ _ => dt
  | .channelRead dt _ _ _ => dt
  | .tableRead dt _ _ _ => dt
  | .tableWrite dt _ _ _ => dt
  | .tableDelete dt _ _ _ => dt
  | .settingsRead dt _ _ _ => dt
  | .settingsWrite dt _ _ _ => dt
  | .commit dt _ _ _ => dt
  | .discard dt _ _ _ => dt
  | .start dt _ _ _ => dt
  | .stop dt _ _ _ => dt
  | .safe dt _ _ _ => dt
  | .resume dt _ _ _ => dt
  | .logRead dt _ _ _ => dt
  | .validationCompletion dt => dt
  | .report dt _ _ _ => dt
  | .reportTimerExpiry dt _ => dt
  | .zoneLineEdge dt _ _ => dt
  | .recognisedChange dt _ => dt
  | .toggleTimerExpiry dt _ => dt
  | .deadEntryTaken dt => dt
  | .dwellEntryTaken dt => dt
  | .onTimerExpiry dt _ => dt
  | .clearingTimerExpiry dt _ => dt
  | .chargingExpiry dt _ => dt
  | .settleExpiry dt _ => dt
  | .arbiterChoice dt => dt
  | .emissionCompletion dt => dt
  | .dPortGapEnd dt => dt
  | .headTaken dt => dt
  | .uPortFrameSent dt => dt
  | .uPortGapEnd dt => dt
  | .framingFault dt _ => dt
  | .lengthAbove32 dt _ => dt
  | .frameCutShort dt _ => dt
  | .breakBegin dt _ => dt
  | .breakEnd dt _ => dt
  | .crcFault dt _ => dt
  | .wrongKind dt _ => dt
  | .octetSampled dt _ _ => dt
  | .unknownRequest dt _ _ _ => dt

/-- The octets a command carries are those a frame of its kind can carry. -/
def Instr.octetsWellFormed (i : Instr) : Bool :=
  match i with
  | .driveFrame _ _ _ payload => payloadWellFormed payload
  | .auxFrame _ _ _ payload => payloadWellFormed payload
  | .tick _ _ _ payload => payloadWellFormed payload
  | .report _ _ _ payload => payloadWellFormed payload
  | .query _ _ _ args => argsWellFormed args
  | .channelRead _ _ _ args => argsWellFormed args
  | .tableRead _ _ _ args => argsWellFormed args
  | .tableWrite _ _ _ args => argsWellFormed args
  | .tableDelete _ _ _ args => argsWellFormed args
  | .settingsRead _ _ _ args => argsWellFormed args
  | .settingsWrite _ _ _ args => argsWellFormed args
  | .commit _ _ _ args => argsWellFormed args
  | .discard _ _ _ args => argsWellFormed args
  | .start _ _ _ args => argsWellFormed args
  | .stop _ _ _ args => argsWellFormed args
  | .safe _ _ _ args => argsWellFormed args
  | .resume _ _ _ args => argsWellFormed args
  | .logRead _ _ _ args => argsWellFormed args
  | .unknownRequest _ _ _ payload => payloadWellFormed payload && unknownPayload payload
  | .deviceReset _ _ => true
  | .resetRelease _ _ => true
  | .startupHoldExpiry _ => true
  | .wakeRestart _ _ => true
  | .closedExpiry _ => true
  | .lateFailure _ => true
  | .resettingExpiry _ => true
  | .graceExpiry _ => true
  | .validationCompletion _ => true
  | .reportTimerExpiry _ _ => true
  | .zoneLineEdge _ _ _ => true
  | .recognisedChange _ _ => true
  | .toggleTimerExpiry _ _ => true
  | .deadEntryTaken _ => true
  | .dwellEntryTaken _ => true
  | .onTimerExpiry _ _ => true
  | .clearingTimerExpiry _ _ => true
  | .chargingExpiry _ _ => true
  | .settleExpiry _ _ => true
  | .arbiterChoice _ => true
  | .emissionCompletion _ => true
  | .dPortGapEnd _ => true
  | .headTaken _ => true
  | .uPortFrameSent _ => true
  | .uPortGapEnd _ => true
  | .framingFault _ _ => true
  | .lengthAbove32 _ _ => true
  | .frameCutShort _ _ => true
  | .breakBegin _ _ => true
  | .breakEnd _ _ => true
  | .crcFault _ _ => true
  | .wrongKind _ _ => true
  | .octetSampled _ _ _ => true

/-- A command is well formed. -/
def Instr.wellFormed (i : Instr) : Bool := dtWellFormed i.dt && i.octetsWellFormed

end Sys2Proof
end

