-- ==== Sys2Proof/Certificates/Slice0/Obligations.lean ====
section
/-! DEFINITION. The statements for the provers, in the order of the spec's chapters; OBLIGATIONS.json says what each rests on. -/

section Statements

open Sys2Proof Sys2Proof.Machine

/-! ## The step, guard time and the restarts -/

/-- One step takes the command at the front of the queue and runs it with the rest of the queue left waiting. -/
def Obligations.StepTakesTheFrontCommand : Prop :=
  ∀ (c : Instr) (s : State), step { s with pending := c :: s.pending } = exec c s

/-- Every command has an effect that is a next state, in every state, and leaves the waiting commands as they are. -/
def Obligations.EveryCommandAnswersNext : Prop :=
  ∀ (c : Instr) (s : State), ∃ t, exec c s = .next t ∧ t.pending = s.pending

/-- R1, whole: the comparison of guard times, the time that has passed, when a due time is reached, and that these
comparisons order times less than 2^31 µs apart as they occurred. -/
def Obligations.GuardTimesOrderedByDifference : Prop :=
  ∀ t1 t2 : Time,
    let passed := (t2.toNat + 2 ^ 32 - t1.toNat) % 2 ^ 32
    (atOrBefore t1 t2 = true ↔ passed < 2 ^ 31) ∧
    (isBefore t1 t2 = true ↔ passed < 2 ^ 31 ∧ t1 ≠ t2) ∧
    elapsed t1 t2 = passed ∧
    (∀ d, hasPassed t1 d t2 = true ↔ d ≤ passed) ∧
    (reached t1 t2 = true ↔ ¬ isBefore t2 t1 = true) ∧
    ∀ d, d < 2 ^ 31 →
      (atOrBefore t1 (after t1 d) = true) ∧ (isBefore t1 (after t1 d) = true ↔ 0 < d) ∧
      (∀ k, hasPassed t1 k (after t1 d) = true ↔ k ≤ d) ∧
      (∀ k, k < 2 ^ 31 → (reached (after t1 d) (after t1 k) = true ↔ d ≤ k))

/-- A device reset and its release leave the state after reset, whatever stood before; the zone pins keep their levels
(log entry 10), and a high one is being measured. The commands that wait stay. -/
def Obligations.DeviceResetAndReleaseReachReset : Prop :=
  ∀ (cause : ResetCause) (dt1 dt2 : Nat) (s : State),
    (cause = .rstn → s.supplyLow = false) → (cause = .supply → s.rstn = false) →
    ∃ t, exec (.deviceReset dt1 cause) s = .next t ∧ t.inReset = true ∧
      exec (.resetRelease dt2 cause) t = .next { State.reset with
        pending := s.pending
        zones := ⟨ZoneUnit.atRelease s.zones.z0.line, ZoneUnit.atRelease s.zones.z1.line⟩ }

/-- In device reset nothing but the reset's own commands and the zone pins moves, CTLRST is asserted and ALERT
negated; the guard leaves it only when neither cause is left. -/
def Obligations.DeviceResetTakesNothing : Prop :=
  ∀ s : State, s.inReset = true →
    (∀ c : Instr, c.actsInReset = false → exec c s = .next s) ∧
    s.ctlrst = true ∧ s.alert = false ∧
    (∀ dt, s.rstn = true → s.supplyLow = true →
      exec (.resetRelease dt .rstn) s = .next { s with rstn := false } ∧
      exec (.resetRelease dt .supply) s = .next { s with supplyLow := false } ∧
      ({ s with rstn := false } : State).inReset = true ∧ ({ s with supplyLow := false } : State).inReset = true)

/-- What the spec gives for the state after reset, and that it meets every law of Safety.lean. -/
def Obligations.ResetStateAsTheSpecGivesIt : Prop :=
  let s := State.reset
  s.now = 0 ∧ s.mode = .config ∧ s.causes = Causes.none ∧ s.startupHold = some 10000 ∧
    s.staging = [] ∧ s.active = [] ∧ s.stagingSet = Settings.powerOn ∧ s.activeSet = Settings.powerOn ∧
    s.committed = false ∧ s.chans = [] ∧ s.pendQ = [] ∧ s.ctxs = [] ∧
    s.window = ⟨false, 0⟩ ∧ s.lastRefusal = none ∧ s.counts = Counts.zero ∧
    s.emit.sets.map (fun r => (r.stage, r.cls, r.quench, r.settings, r.age)) =
      [(0, .urgent, true, [], 0), (1, .urgent, true, [], 0), (2, .urgent, true, [], 0), (3, .urgent, true, [], 0)] ∧
    (s.emit.sets.map SetRec.order).Pairwise (· < ·) ∧ s.emit.sets.all (fun r => decide (r.order < s.emit.nextOrder)) ∧
    s.emit.auxs = [] ∧ s.emit.closed = false ∧ s.emit.dseq = 0 ∧ s.emit.dtx = .idle ∧
    (∀ st, s.stages.get st = ⟨.silent, 0, false, none⟩) ∧ s.upQ = [] ∧ s.utx = .idle ∧
    s.tick = ⟨.off, none, 0⟩ ∧
    (∀ z, (s.zones.get z).recognised = false ∧ (s.zones.get z).state = .inactive ∧ (s.zones.get z).timer = none) ∧
    s.handler = .idle ∧ s.log = [] ∧ s.overflow = 0 ∧ s.rx = ⟨.hunt, .hunt⟩ ∧
    s.inReset = false ∧ s.ctlrst = true ∧ s.alert = false ∧
    s.emit.tidy = true ∧ s.causesMatchMode = true ∧ s.forcedMatchesHolds = true ∧ s.modeHoldsKept = true ∧
    s.logLaw = true ∧ s.upstreamLaw = true ∧ s.failLaw = true ∧ tableLaw s.staging = true ∧
    tableLaw s.active = true ∧ s.recordsMatchTable = true ∧ s.entriesMatchStates = true ∧
    attemptsLaw s.staging = true ∧ attemptsLaw s.active = true ∧ s.shutdownIdle = true ∧ s.configTickOff = true ∧
    s.workingLaw = true ∧ s.attemptLaw = true ∧ s.contextsMatchStates = true ∧ s.pairLaw = true ∧ s.lawful = true

/-- The start-up hold ends when its due time is reached, and CTLRST is then asserted for RESETTING or SHUTDOWN alone;
before it nothing but time moves. The expiries of CLOSED, RESETTING and GRACE: the state that follows with its timer,
and nothing else; before the due time nothing but time moves. -/
def Obligations.TimedStatesExpire : Prop :=
  (∀ (dt : Nat) (s : State) (due : Time), s.inReset = false → s.startupHold = some due →
      (reached due (after s.now dt) = true →
        let t := { s.advance dt with startupHold := none }
        exec (.startupHoldExpiry dt) s = .next t ∧
          t.ctlrst = (s.tick.state == .resetting || s.mode == .shutdown)) ∧
      (reached due (after s.now dt) = false →
        exec (.startupHoldExpiry dt) s = .next (s.advance dt) ∧ (s.advance dt).ctlrst = true)) ∧
  (∀ (dt : Nat) (due : Time) (s : State), s.inReset = false → s.tick.timer = some due →
      let now := after s.now dt
      let enter := fun (st : TickState) (d : Nat) =>
        { s.advance dt with tick := ⟨st, some (after now (d * 1000)), s.tick.fails⟩ }
      (reached due now = true →
        (s.tick.state = .closed → exec (.closedExpiry dt) s = .next (enter .opened s.activeSet.tw)) ∧
        (s.tick.state = .resetting → exec (.resettingExpiry dt) s = .next (enter .grace s.activeSet.grace)) ∧
        (s.tick.state = .grace →
          exec (.graceExpiry dt) s = .next (enter .openFirst (s.activeSet.tmin + s.activeSet.tw)))) ∧
      (reached due now = false →
        exec (.closedExpiry dt) s = .next (s.advance dt) ∧ exec (.resettingExpiry dt) s = .next (s.advance dt) ∧
        exec (.graceExpiry dt) s = .next (s.advance dt) ∧ exec (.lateFailure dt) s = .next (s.advance dt)))

/-- The wake pattern in SHUTDOWN makes the wake restart, state by state; a shorter low period does not. The creation
orders of the four quenches start at 0 by the model's choice (log entry 16). -/
def Obligations.WakePatternRestartsTheGuard : Prop :=
  ∀ (dt low : Nat) (s : State), s.inReset = false → s.mode = .shutdown →
    (2000 ≤ low → 2000 ≤ s.shutdownFor + dt →
      exec (.wakeRestart dt low) s = .next { s.advance dt with
        mode := .config
        causes := Causes.none
        startupHold := some (after (after s.now dt) 10000)
        shutdownFor := 0
        chans := s.chans.map fun r =>
          { r with state := .forced, holds := ⟨true, false, false, false, false⟩, requested := .off, onTimer := none }
        pendQ := []
        ctxs := []
        window := ⟨false, 0⟩
        lastRefusal := none
        counts := Counts.zero
        emit := ⟨[SetRec.quenchOf 0 (after s.now dt) 0, SetRec.quenchOf 1 (after s.now dt) 1,
          SetRec.quenchOf 2 (after s.now dt) 2, SetRec.quenchOf 3 (after s.now dt) 3], [], 4, false, 0, .idle⟩
        stages := ⟨StageRec.initial, StageRec.initial, StageRec.initial, StageRec.initial⟩
        upQ := []
        utx := .idle
        tick := ⟨.off, none, 0⟩
        zones := ⟨ZoneUnit.atWake s.zones.z0.line (after s.now dt), ZoneUnit.atWake s.zones.z1.line (after s.now dt)⟩
        handler := .idle
        rx := ⟨.hunt, .hunt⟩ }) ∧
    (low < 2000 ∨ s.shutdownFor + dt < 2000 → exec (.wakeRestart dt low) s = .next (s.advance dt))

/-- In SHUTDOWN the receivers take nothing: every frame and every finding of a receiver passes without a trace. That a
receiver's own state stands still as well, even at a BREAK (R183) and with a frame in progress, is the model's choice (log
entry 24). -/
def Obligations.ShutdownReceivesNothing : Prop :=
  ∀ (c : Instr) (s : State), c.fromLink = true → s.inReset = false → s.mode = .shutdown →
    exec c s = .next (s.advance c.dt)

/-! ## Command Intake -/

/-- A DRIVE frame of a bad form is discarded and counted, in every mode that receives it; a well-formed one in CONFIG
is refused whole with reason MODE. -/
def Obligations.DriveFrameTurnedAway : Prop :=
  ∀ (dt : Nat) (addr : BitVec 4) (seq : Byte) (payload : List Byte) (s : State), s.receives .u →
    ((4 ≤ addr.toNat ∨ payload = [] ∨ 16 < payload.length ∨ ¬ (payload.map settingOutput).Nodup ∨
        ∃ b ∈ payload, b.extractLsb' 4 3 ≠ 0) →
      exec (.driveFrame dt addr seq payload) s = .next (count .uMalformed 1 (s.arrived dt .u))) ∧
    (∀ st b rest, stageOf addr = some st → payload = b :: rest → drivePayloadWellFormed payload = true →
      s.mode = .config →
      exec (.driveFrame dt addr seq payload) s = .next { count .refusedMode 1 (s.arrived dt .u) with
        lastRefusal := some ⟨Chan.of st (settingOutput b), seq, .mode⟩ })

/-- The sequence window's verdicts on a DRIVE frame in RUN and SAFE; what the split of an accepted frame does is said in
SameFrameConflictTurnsBothOff. -/
def Obligations.SequenceWindowJudgesTheFrame : Prop :=
  ∀ (dt : Nat) (addr : BitVec 4) (st : Stage) (seq : Byte) (payload : List Byte) (s : State), s.receives .u →
    (s.mode = .run ∨ s.mode = .safe) → stageOf addr = some st → drivePayloadWellFormed payload = true →
    let d := (seq.toNat + 256 - s.window.last.toNat) % 256
    let split := fun w : State => splitFrame seq (driveSettings st payload) w
    exec (.driveFrame dt addr seq payload) s = .next
      (if s.window.synced = false then split (s.windowed dt seq)
       else if d = 0 then count .duplicate 1 (s.arrived dt .u)
       else if d = 1 then split (s.windowed dt seq)
       else if d ≤ 127 then split (count .gap (d - 1) (s.windowed dt seq))
       else count .stale 1 (s.arrived dt .u))

/-- A frame whose settings all name unguarded channels: forwarded under policy OPEN in RUN, dropped and counted once
for each setting in RUN under policy CLOSED and in SAFE, the last setting's refusal standing. -/
def Obligations.UnguardedSettingsFollowThePassPolicy : Prop :=
  ∀ (dt : Nat) (addr : BitVec 4) (st : Stage) (seq : Byte) (payload : List Byte) (last : Byte) (s : State),
    s.expects seq → stageOf addr = some st → drivePayloadWellFormed payload = true →
    payload.getLast? = some last →
    (∀ b ∈ payload, s.entry (Chan.of st (settingOutput b)) = none) →
    let w := s.windowed dt seq
    let refused := fun (k : Counter) (why : RefusalReason) =>
      { count k payload.length w with lastRefusal := some ⟨Chan.of st (settingOutput last), seq, why⟩ }
    (s.mode = .run → s.activeSet.passPolicy = .opened →
      exec (.driveFrame dt addr seq payload) s = .next { w with
        emit := payload.foldl
          (fun q b => q.place w.now (Chan.of st (settingOutput b)) (settingLevel b) .normal) s.emit }) ∧
    (s.mode = .run → s.activeSet.passPolicy = .closed →
      exec (.driveFrame dt addr seq payload) s = .next (refused .refusedClosed .closed)) ∧
    (s.mode = .safe → exec (.driveFrame dt addr seq payload) s = .next (refused .refusedMode .mode))

/-- An ON request for a channel in OFF whose partner is not requested ON runs the ON path. An ON request in the other
states: HELD when FORCED, CONFLICT when the partner is requested ON, back to ON from ON_HOLD, and without effect
otherwise. For a donor in OFF whose own OFF is still on its way after an abort R62 says two things, and the ON path clause
states the model's choice there: the partner alone is looked at (log entry 31). -/
def Obligations.OnRequestOutcomes : Prop :=
  (∀ (dt : Nat) (c : Chan) (seq : Byte) (r : ChanRec) (e : Entry) (s : State),
      s.expects seq → s.chan c = some r → r.state = .off → s.entry c = some e → s.partnerRequestedOn c = false →
      ∃ t, exec (.driveFrame dt (addrOf c) seq [settingFor c .on]) s = .next t ∧
        onPathLaw c seq (s.windowed dt seq) t e) ∧
  (∀ (dt : Nat) (c : Chan) (seq : Byte) (r : ChanRec) (e : Entry) (s : State),
      s.expects seq → s.chan c = some r → s.entry c = some e →
      let w := s.windowed dt seq
      let frame := exec (.driveFrame dt (addrOf c) seq [settingFor c .on]) s
      (r.state = .forced →
        frame = .next { count .refusedHeld 1 w with lastRefusal := some ⟨c, seq, .held⟩ }) ∧
      (r.state ≠ .forced → s.partnerRequestedOn c = true →
        frame = .next { count .refusedConflict 1 w with lastRefusal := some ⟨c, seq, .conflict⟩ }) ∧
      (s.partnerRequestedOn c = false → r.state = .wait ∨ r.state = .priming ∨ r.state = .on ∨ r.state = .lent →
        frame = .next w) ∧
      (s.partnerRequestedOn c = false → r.state = .onHold →
        frame = .next (setState c .on .on (count .superseded 1 (removePend c w)))))

/-- An OFF request in every state of its channel: always accepted, with the outcome of R31 or R32. Two
branches are reached by no run and rest on the model's choice (log entry 17): a channel in ON without an ON emission time
and with no ON on its way, and a channel in PRIMING without a context. -/
def Obligations.OffRequestOutcomes : Prop :=
  ∀ (dt : Nat) (c : Chan) (seq : Byte) (r : ChanRec) (e : Entry) (s : State),
    s.expects seq → s.chan c = some r → s.entry c = some e →
    let w := s.windowed dt seq
    let placedOff := setState c .off .off (stopOnTimer c (place c .off .normal w))
    exec (.driveFrame dt (addrOf c) seq [settingFor c .off]) s = .next
      (match r.state with
      | .forced => w
      | .off => w
      | .lent => w
      | .onHold => w
      | .wait => setState c .off .off (count .superseded 1 (removePend c w))
      | .priming =>
        match s.ctx c with
        | none => setState c .off .off w
        | some x =>
          if (s.chan x.donor).any (fun d => d.state == .lent) then
            setState c .off .off
              (setState x.donor .off .off (place x.donor .off .normal (closeCtx c w)))
          else setState c .off .off (closeCtx c w)
      | .on =>
        if s.onWaiting c then placedOff
        else if s.onSending c then fileUndated c .dwell seq (setState c .onHold .off w)
        else
          match r.onTime with
          | none => placedOff
          | some on =>
            if hasPassed on e.minDwell w.now then placedOff
            else fileDated c .dwell (after on e.minDwell) seq (setState c .onHold .off w))

/-- A frame that asks ON for both channels of a pair: both become OFF requests at their places, with one count and one
CONFLICT record for the lower channel. The split of any frame, guarded and unguarded settings mixed: first a count and a
record for each pair asked ON whole, in ascending lower channel, their settings turned into OFF; then every setting at its
place, dealt with as the frame of that setting alone would be dealt with at that moment. Two points of it are the model's
own: an unguarded setting behind one that enters SAFE in mid-frame is judged in SAFE, although R84 says that the mode is
read at each frame (DEDUCED, log entry 19); and a replaced OFF that removes a WAIT entry raises superseded beside the
pair-conflict count (DESIGN CHOICE, log entry 32). -/
def Obligations.SameFrameConflictTurnsBothOff : Prop :=
  (∀ (dt : Nat) (a b : Chan) (ea eb : Entry) (seq : Byte) (s : State),
    s.expects seq → tableLaw s.active = true → s.entry a = some ea → s.entry b = some eb →
    ea.partner = some b → eb.partner = some a → a ≠ b → Chan.stage a = Chan.stage b →
    let w := s.windowed dt seq
    exec (.driveFrame dt (addrOf a) seq [settingFor a .on, settingFor b .on]) s = .next
      (offRequest b seq (offRequest a seq
        (makeRecord (.conflict (min a b) seq) (count .pairConflict 1 w))))) ∧
  (∀ (st : Stage) (seq : Byte) (payload : List Byte) (lowers : List Chan) (w : State),
    tableLaw w.active = true → drivePayloadWellFormed payload = true → risingIds lowers = true →
    let chan := fun b : Byte => Chan.of st (settingOutput b)
    let askedOn := fun c : Chan => ∃ b ∈ payload, chan b = c ∧ settingLevel b = .on
    (∀ c, c ∈ lowers ↔ ∃ p, c < p ∧ w.partner c = some p ∧ w.partner p = some c ∧ askedOn c ∧ askedOn p) →
    let level := fun b : Byte =>
      if lowers.any fun l => l == chan b || w.partner l == some (chan b) then Level.off else settingLevel b
    let noted := lowers.foldl (fun u l => makeRecord (.conflict l seq) (count .pairConflict 1 u)) w
    splitFrame seq (driveSettings st payload) w =
      payload.foldl (fun u b => dealSetting seq u (chan b, level b)) noted) ∧
  (∀ (addr : BitVec 4) (st : Stage) (seq b : Byte) (u : State), u.receives .u → u.mode = .run ∨ u.mode = .safe →
    u.rx.get .u = .hunt → u.window = ⟨true, seq⟩ → 0 < u.eventNo → stageOf addr = some st →
    settingUnusedZero b = true →
    exec (.driveFrame 0 addr seq [b]) u.beforeFrame =
      .next (dealSetting seq u (Chan.of st (settingOutput b), settingLevel b)))

/-- An AUX frame is forwarded as an AUX record, dropped when four wait, and malformed with an address that is no
stage. -/
def Obligations.AuxFrameForwardedOrDropped : Prop :=
  ∀ (dt : Nat) (addr : BitVec 4) (seq : Byte) (payload : List Byte) (s : State), s.receives .u →
    payload.length ≤ 32 →
    (∀ st, stageOf addr = some st → s.emit.auxs.length < 4 → s.emit.closed = false →
      exec (.auxFrame dt addr seq payload) s = .next { s.arrived dt .u with
        emit := { s.emit with
          auxs := s.emit.auxs ++ [⟨st, payload, after s.now dt, s.emit.nextOrder⟩]
          nextOrder := s.emit.nextOrder + 1 } }) ∧
    (∀ st, stageOf addr = some st → 4 ≤ s.emit.auxs.length →
      exec (.auxFrame dt addr seq payload) s = .next (count .auxDrop 1 (s.arrived dt .u))) ∧
    (4 ≤ addr.toNat → exec (.auxFrame dt addr seq payload) s = .next (count .uMalformed 1 (s.arrived dt .u)))

/-! ## The Tick Monitor -/

/-- A TICK frame: valid in OPEN_FIRST and OPEN (with the return to RUN when STREAM was the last cause), ignored in
OFF, RESETTING and GRACE, malformed with another address or a payload. -/
def Obligations.TickJudgedByTheMonitorsState : Prop :=
  ∀ (dt : Nat) (addr : BitVec 4) (seq : Byte) (payload : List Byte) (s : State), s.receives .u →
    let w := s.arrived dt .u
    (addr = 15 → payload = [] → s.tick.state = .openFirst ∨ s.tick.state = .opened →
      let v := { w with
        tick := ⟨.closed, some (after (after s.now dt) (s.activeSet.tmin * 1000)), 0⟩
        causes := ⟨false, s.causes.command, s.causes.charge⟩ }
      exec (.tick dt addr seq payload) s = .next
        (if s.mode = .safe ∧ s.causes = ⟨true, false, false⟩ then
          { v with mode := .run, chans := s.chans.map (ChanRec.release .safe) }
        else v)) ∧
    (addr = 15 → payload = [] → s.tick.state = .off ∨ s.tick.state = .resetting ∨ s.tick.state = .grace →
      exec (.tick dt addr seq payload) s = .next w) ∧
    (addr ≠ 15 ∨ payload ≠ [] → exec (.tick dt addr seq payload) s = .next (count .uMalformed 1 w))

/-- A failure of the tick stream below the limit: an early one at a tick in CLOSED, a late one at the expiry of OPEN
or OPEN_FIRST. From RUN it enters SAFE, with a quench of every stage and every guarded channel FORCED; in SAFE it
enters STREAM in the set. A late failure comes from the monitor's own timer, so nothing on the lines shuts it out; a full
log counts the record it cannot hold. -/
def Obligations.StreamFailureEntersSafe : Prop :=
  ∀ (dt : Nat) (seq : Byte) (early : Bool) (due : Time) (s : State),
    let cmd : Instr := if early then .tick dt 15 seq [] else .lateFailure dt
    let kind : FaultKind := if early then .streamEarly else .streamLate
    let w := if early then s.arrived dt .u else s.advance dt
    let made := s.logged (after s.now dt) [kind]
    s.inReset = false → s.emit.closed = false → s.recordsLawful = true →
    (early = true → s.receives .u ∧ s.tick.state = .closed) →
    (early = false → (s.tick.state = .opened ∨ s.tick.state = .openFirst) ∧ s.tick.timer = some due ∧
      reached due (after s.now dt) = true) →
    s.activeSet.failLimit = 0 ∨ s.tick.fails ≠ s.activeSet.failLimit →
    s.mode = .run ∨ s.mode = .safe →
    ∃ t, exec cmd s = .next t ∧
      t = { w with
        mode := .safe
        causes := ⟨true, s.causes.command, s.causes.charge⟩
        tick := {
          state := if s.activeSet.resetPulse = 0 then .grace else .resetting
          timer := some (after (after s.now dt)
            ((if s.activeSet.resetPulse = 0 then s.activeSet.grace else s.activeSet.resetPulse) * 1000))
          fails := if s.tick.fails = 15 then 15 else s.tick.fails + 1 }
        log := made.1
        overflow := made.2
        chans := t.chans
        pendQ := t.pendQ
        ctxs := t.ctxs
        emit := t.emit } ∧
      t.alert = true ∧ (s.activeSet.resetPulse ≠ 0 → t.ctlrst = true) ∧
      (s.mode = .safe → t.chans = s.chans ∧ t.pendQ = s.pendQ ∧ t.ctxs = s.ctxs ∧ t.emit = s.emit) ∧
      (s.mode = .run → t.onlyQuenches ∧ s.emit.sameLine t.emit ∧ s.sameEmissions t ∧ s.freed t ∧
        ∀ r ∈ t.chans, r.heldBy .safe)

/-- A failure that finds the fail count at a non-zero limit enters SHUTDOWN, in every effect R129 lists, with
both records made or counted. -/
def Obligations.StreamFailureAtTheLimitShutsDown : Prop :=
  ∀ (dt : Nat) (seq : Byte) (early : Bool) (due : Time) (s : State),
    let cmd : Instr := if early then .tick dt 15 seq [] else .lateFailure dt
    let kind : FaultKind := if early then .streamEarly else .streamLate
    let w := if early then s.arrived dt .u else s.advance dt
    let still := fun (u : ZoneUnit) => ({ u with measuring := none, state := .inactive, timer := none } : ZoneUnit)
    let untimed := fun (r : StageRec) => ({ r with timer := none } : StageRec)
    let made := s.logged (after s.now dt) [kind, .streamLimit]
    s.inReset = false → s.mode ≠ .shutdown → s.emit.closed = false → s.recordsLawful = true →
    (early = true → s.receives .u ∧ s.tick.state = .closed) →
    (early = false → (s.tick.state = .opened ∨ s.tick.state = .openFirst) ∧ s.tick.timer = some due ∧
      reached due (after s.now dt) = true) →
    s.activeSet.failLimit ≠ 0 → s.tick.fails = s.activeSet.failLimit →
    ∃ t, exec cmd s = .next t ∧
      t = { w with
        mode := .shutdown
        shutdownFor := 0
        causes := Causes.none
        tick := ⟨.off, none, s.tick.fails⟩
        zones := ⟨still s.zones.z0, still s.zones.z1⟩
        stages := ⟨untimed s.stages.s0, untimed s.stages.s1, untimed s.stages.s2, untimed s.stages.s3⟩
        upQ := []
        utx := .silent
        handler := .idle
        log := made.1
        overflow := made.2
        chans := t.chans
        pendQ := t.pendQ
        ctxs := t.ctxs
        emit := { s.emit with sets := t.emit.sets, nextOrder := t.emit.nextOrder, auxs := [], closed := true } } ∧
      t.onlyQuenches ∧ s.sameEmissions t ∧ s.freed t ∧
      (∀ r ∈ t.chans, r.heldBy .mode ∧ r.holds.safe = false) ∧
      t.ctlrst = true ∧ t.alert = true

/-! ## Management: reads -/

/-- QUERY and CHANNEL-READ answer OK with the data of their section or channel, read at the taking, and change nothing
else; the data are the octets the layouts give, counts in the order of R162, where the queues lie within their capacities
and a context within the ranges it was copied from. -/
def Obligations.QueryAndChannelReadAnswer : Prop :=
  ∀ (dt : Nat) (tag : Byte) (s : State), s.serves →
    let w := s.arrived dt .u
    let k := s.counts
    exec (.query dt 15 tag [0]) s = .next (w.answered ⟨tag, 1, [0]⟩ .ok (querySection0 w)) ∧
    exec (.query dt 15 tag [1]) s = .next (w.answered ⟨tag, 1, [1]⟩ .ok (querySection1 w)) ∧
    exec (.query dt 15 tag [2]) s = .next (w.answered ⟨tag, 1, [2]⟩ .ok (querySection2 w)) ∧
    exec (.query dt 15 tag [3]) s = .next (w.answered ⟨tag, 1, [3]⟩ .ok (querySection3 w)) ∧
    (∀ (b : Byte) (c : Chan) (r : ChanRec), b.toNat = c.val → s.chan c = some r →
      exec (.channelRead dt 15 tag [b]) s = .next (w.answered ⟨tag, 2, [b]⟩ .ok (channelOctets r w)) ∧
      ((∀ x, w.ctxWith c = some x →
          x.attempt ≤ 7 ∧ x.attemptLimit ≤ 7 ∧ x.chargeTime % 10 = 0 ∧ x.chargeTime ≤ 2000 ∧ x.deadTime ≤ 1023) →
        channelLayout r w (channelOctets r w))) ∧
    (s.pendQ.length ≤ 48 → s.emit.sets.length ≤ 8 → s.emit.auxs.length ≤ 4 → s.log.length ≤ 16 →
      section0Layout w (querySection0 w)) ∧
    section1Layout w (querySection1 w) ∧
    countsLayout [k.uMalformed, k.duplicate, k.stale, k.gap, k.refusedMode, k.refusedClosed, k.refusedHeld,
      k.refusedConflict, k.pairConflict, k.auxDrop] (querySection2 w) ∧
    countsLayout [k.superseded, k.recharge, k.dMalformed, k.reportDrop, k.mgmtDrop, k.uCrc, k.dCrc] (querySection3 w)

/-- R10, whole: TABLE-READ and SETTINGS-READ answer the contents of the named side as they stand, or RANGE or ABSENT,
and change no state but the Upstream Queue, where the answer is placed. -/
def Obligations.TableAndSettingsReadsAnswer : Prop :=
  ∀ (dt : Nat) (tag : Byte) (s : State), s.serves →
    let w := s.arrived dt .u
    let side := fun (copy : Byte) => if copy = 0 then (s.staging, s.stagingSet) else (s.active, s.activeSet)
    (∀ copy id : Byte, copy = 0 ∨ copy = 1 →
      (63 < id.toNat →
        exec (.tableRead dt 15 tag [copy, id]) s = .next (w.answered ⟨tag, 3, [copy, id]⟩ .range [])) ∧
      (∀ c : Chan, id.toNat = c.val → findEntry c (side copy).1 = none →
        exec (.tableRead dt 15 tag [copy, id]) s = .next (w.answered ⟨tag, 3, [copy, id]⟩ .absent [])) ∧
      (∀ (c : Chan) (e : Entry), id.toNat = c.val → findEntry c (side copy).1 = some e →
        exec (.tableRead dt 15 tag [copy, id]) s =
          .next (w.answered ⟨tag, 3, [copy, id]⟩ .ok (encodeEntry e))) ∧
      exec (.settingsRead dt 15 tag [copy]) s =
        .next (w.answered ⟨tag, 6, [copy]⟩ .ok (encodeSettings (side copy).2))) ∧
    (∀ copy id : Byte, copy ≠ 0 → copy ≠ 1 →
      exec (.tableRead dt 15 tag [copy, id]) s = .next (w.answered ⟨tag, 3, [copy, id]⟩ .range []) ∧
      exec (.settingsRead dt 15 tag [copy]) s = .next (w.answered ⟨tag, 6, [copy]⟩ .range []))

/-! ## Management: the staging side -/

/-- TABLE-WRITE with every field in range: the entry stands under its id, every other id as before, one entry more
where there was none, the copy still in order; FULL when 48 entries stand and none has the id. TABLE-DELETE takes the
id's entry out of the Staging Copy and leaves every other; SETTINGS-WRITE replaces the Staging Settings Record. -/
def Obligations.StagingEditsAreCarriedOut : Prop :=
  (∀ (dt : Nat) (tag : Byte) (args : List Byte) (e : Entry) (s : State), s.serves → decodeEntry args = some e →
      let w := s.arrived dt .u
      (findEntry e.id s.staging = none → 48 ≤ s.staging.length →
        exec (.tableWrite dt 15 tag args) s = .next (w.answered ⟨tag, 4, args⟩ .full [])) ∧
      (findEntry e.id s.staging ≠ none ∨ s.staging.length < 48 →
        ∃ copy, exec (.tableWrite dt 15 tag args) s =
            .next (({ w with staging := copy } : State).answered ⟨tag, 4, args⟩ .ok []) ∧
          (∀ c, findEntry c copy = if c = e.id then some e else findEntry c s.staging) ∧
          (tableLaw s.staging = true → tableLaw copy = true ∧
            copy.length = if findEntry e.id s.staging = none then s.staging.length + 1 else s.staging.length))) ∧
  (∀ (dt : Nat) (tag : Byte) (s : State), s.serves →
      let w := s.arrived dt .u
      (∀ (b : Byte) (c : Chan), b.toNat = c.val → findEntry c s.staging ≠ none →
        ∃ copy, exec (.tableDelete dt 15 tag [b]) s =
            .next (({ w with staging := copy } : State).answered ⟨tag, 5, [b]⟩ .ok []) ∧
          (∀ d, findEntry d copy = if d = c then none else findEntry d s.staging) ∧
          (tableLaw s.staging = true → copy.length + 1 = s.staging.length)) ∧
      (∀ (args : List Byte) (r : Settings), decodeSettings args = some r →
        exec (.settingsWrite dt 15 tag args) s =
          .next (({ w with stagingSet := r } : State).answered ⟨tag, 7, args⟩ .ok [])))

/-- R9, whole: DISCARD makes the staging side equal to the active side and changes nothing else; before the first
install the active side is empty with the power-on settings, and every step keeps that true, so that a DISCARD then
empties the staging side. -/
def Obligations.DiscardMakesTheSidesEqual : Prop :=
  (∀ (dt : Nat) (tag : Byte) (s : State), s.serves →
    exec (.discard dt 15 tag []) s = .next
      (({ s.arrived dt .u with staging := s.active, stagingSet := s.activeSet } : State).answered
        ⟨tag, 9, []⟩ .ok [])) ∧
  (State.reset.committed = false ∧ State.reset.active = [] ∧ State.reset.activeSet = Settings.powerOn) ∧
  (∀ s t : State, step s = .next t →
    (s.committed = false → s.active = [] ∧ s.activeSet = Settings.powerOn) →
    (t.committed = false → t.active = [] ∧ t.activeSet = Settings.powerOn))

/-- The staging side has no effect on anything enforced: in any two states that differ in it alone, every command that
is not about it leaves states that differ in it alone. -/
def Obligations.StagingSideHasNoEffect : Prop :=
  ∀ (c : Instr) (s t : State) (copy : List Entry) (set : Settings), c.meetsStaging = false →
    exec c s = .next t →
    exec c { s with staging := copy, stagingSet := set } = .next { t with staging := copy, stagingSet := set }

/-! ## Management: refusals -/

/-- Requests with an argument out of range, an unknown name, a wrong length, or for what does not exist, are answered
so and change nothing; a MGMT frame for another address, or empty, is malformed. -/
def Obligations.RequestsRefusedForTheirForm : Prop :=
  ∀ (dt : Nat) (tag b : Byte) (s : State), s.serves →
    let w := s.arrived dt .u
    (3 < b.toNat → exec (.query dt 15 tag [b]) s = .next (w.answered ⟨tag, 1, [b]⟩ .range [])) ∧
    (63 < b.toNat → exec (.channelRead dt 15 tag [b]) s = .next (w.answered ⟨tag, 2, [b]⟩ .range []) ∧
      exec (.tableDelete dt 15 tag [b]) s = .next (w.answered ⟨tag, 5, [b]⟩ .range [])) ∧
    (∀ c : Chan, b.toNat = c.val →
      (s.chan c = none → exec (.channelRead dt 15 tag [b]) s = .next (w.answered ⟨tag, 2, [b]⟩ .absent [])) ∧
      (findEntry c s.staging = none →
        exec (.tableDelete dt 15 tag [b]) s = .next (w.answered ⟨tag, 5, [b]⟩ .absent []))) ∧
    (b = 0 ∨ 4 < b.toNat → exec (.logRead dt 15 tag [b]) s = .next (w.answered ⟨tag, 14, [b]⟩ .range [])) ∧
    (∀ args : List Byte, args.length = 12 → decodeEntry args = none →
      exec (.tableWrite dt 15 tag args) s = .next (w.answered ⟨tag, 4, args⟩ .range [])) ∧
    (∀ args : List Byte, args.length = 12 → decodeSettings args = none →
      exec (.settingsWrite dt 15 tag args) s = .next (w.answered ⟨tag, 7, args⟩ .range [])) ∧
    (∀ (i : Instr) (addr : BitVec 4) (req : Request), i.mgmt = some (addr, req) → req.args.length < 32 →
      let v := s.arrived i.dt .u
      (addr ≠ 15 → exec i s = .next (count .uMalformed 1 v)) ∧
      (addr = 15 → req.name = 0 ∨ 14 < req.name.toNat → exec i s = .next (v.answered req .unknown [])) ∧
      (addr = 15 → req.name ≠ 0 → req.name.toNat ≤ 14 → req.args.length ≠ argumentLength req.name →
        exec i s = .next (v.answered req .length []))) ∧
    (∀ addr, exec (.unknownRequest dt addr tag []) s = .next (count .uMalformed 1 w))

/-- A request that meets a busy handler is answered BUSY, or dropped and counted when the Upstream Queue is full, and
has no other effect. -/
def Obligations.BusyHandlerAnswersBusy : Prop :=
  ∀ (i : Instr) (req : Request) (s : State), i.mgmt = some (15, req) → req.args.length < 32 → s.receives .u →
    s.handler ≠ .idle →
    let w := s.arrived i.dt .u
    exec i s = .next (if s.upQ.length < 8 then w.answered req .busy [] else count .mgmtDrop 1 w)

/-! ## COMMIT -/

/-- A COMMIT is taken where the mode permits one, and stays in WORKING for 2 µs and 3 µs for each entry the walk
examines, whatever room there is upward; elsewhere it is refused MODE. -/
def Obligations.CommitTakenWhereTheModePermits : Prop :=
  ∀ (dt : Nat) (tag : Byte) (s : State), s.receives .u → s.handler = .idle →
    let w := s.arrived dt .u
    (s.mode = .config ∨ (s.activeSet.commitInRun = true ∧ s.stagingSet = s.activeSet) →
      exec (.commit dt 15 tag []) s = .next { w with
        handler := .working ⟨tag, 8, []⟩ (after (after s.now dt) (2 + 3 * (validate s).examined)) }) ∧
    (s.mode ≠ .config → s.activeSet.commitInRun = false ∨ s.stagingSet ≠ s.activeSet →
      exec (.commit dt 15 tag []) s = .next (w.replied ⟨tag, 8, []⟩ .mode []))

/-- The validation walk: it fails with the first entry that fails a check and with that entry's lowest failing check, and
has then examined the entries up to it; a walk that passes has examined every entry, and then every pair agrees as R12
asks. Each check is given by its own condition. -/
def Obligations.ValidationWalksInOrder : Prop :=
  [CheckCode.precondUnpaired, .partnerSelf, .partnerMissing, .partnerStage, .partnerAsymmetric, .deadMismatch,
    .zoneMismatch, .precondBoth].map CheckCode.code = [1, 2, 3, 4, 5, 6, 7, 8] ∧
  ∀ s : State,
    let passes := fun e : Entry => ∀ k, ¬ e.fails s.staging k
    (∀ c k, (validate s).failure = some (c, k) ↔
      ∃ before e behind, s.staging = before ++ e :: behind ∧ (∀ x ∈ before, passes x) ∧ e.id = c ∧
        e.fails s.staging k ∧ ∀ j, j.code.toNat < k.code.toNat → ¬ e.fails s.staging j) ∧
    (∀ before e behind, s.staging = before ++ e :: behind → (∀ x ∈ before, passes x) → ¬ passes e →
      (validate s).examined = before.length + 1) ∧
    ((validate s).failure = none →
      (validate s).examined = s.staging.length ∧
      ∀ e ∈ s.staging,
        match e.partner with
        | none => e.precond = none
        | some p => p ≠ e.id ∧ ∃ q, findEntry p s.staging = some q ∧ Chan.stage p = Chan.stage e.id ∧
            q.partner = some e.id ∧ q.deadTime = e.deadTime ∧ q.zone = e.zone ∧
            (q.precond = none ∨ e.precond = none))

/-- The validation completion answers INVALID at a failed walk and LIVE with the first channel that fails the
install check, changing nothing; else the staging side is installed and the answer is OK. With the Upstream Queue full
the answer waits in REPLYING, and the install is in force all the same. -/
def Obligations.ValidationCompletionEndsTheCommit : Prop :=
  ∀ (dt : Nat) (req : Request) (due : Time) (s : State), s.inReset = false →
    s.handler = .working req due → reached due (after s.now dt) = true →
    let w := { s.advance dt with handler := .idle }
    (∀ c k, (validate s).failure = some (c, k) →
      exec (.validationCompletion dt) s =
        .next (w.replied req .invalid [BitVec.ofNat 8 c.val, k.code])) ∧
    ((validate s).failure = none → ∀ before e behind, s.active = before ++ e :: behind →
      (∀ x ∈ before, ¬ s.failsInstall x) → s.failsInstall e →
      exec (.validationCompletion dt) s = .next (w.replied req .live [BitVec.ofNat 8 e.id.val])) ∧
    ((validate s).failure = none → (∀ e ∈ s.active, ¬ s.failsInstall e) →
      ∃ t, exec (.validationCompletion dt) s = .next t ∧
        t = { w with
          active := s.staging
          activeSet := s.stagingSet
          committed := true
          chans := t.chans
          pendQ := t.pendQ
          ctxs := t.ctxs
          emit := t.emit
          stages := t.stages
          handler := if s.upQ.length < 8 then .idle else .replying req ⟨.ok, [], 0⟩
          upQ := if s.upQ.length < 8 then s.upQ ++ [respFrame req .ok [] { t with upQ := s.upQ }] else s.upQ } ∧
        s.emit.sameLine t.emit ∧
        (tableLaw s.staging = true → tableLaw s.active = true → s.recordsMatchTable = true →
          t.recordsMatchTable = true))

/-- An install in CONFIG, RUN or SAFE. The stage records follow the change of use. An adopted channel is effectively ON,
FORCED with the holds R18 gives it or OFF without any, and its OFF waits, URGENT with holds and NORMAL without; a released
one has no record. One that stays keeps its record whole, but where its zone has changed its ZONE hold follows the new
zone, with the processing of any hold added or removed. -/
def Obligations.InstallAdoptsAndReleases : Prop :=
  ∀ (dt : Nat) (req : Request) (due : Time) (s t : State), s.inReset = false → s.mode ≠ .shutdown →
    s.handler = .working req due → reached due (after s.now dt) = true → s.upQ.length < 8 →
    s.emit.closed = false → s.emit.tidy = true →
    (validate s).failure = none → (∀ e ∈ s.active, ¬ s.failsInstall e) →
    tableLaw s.staging = true → tableLaw s.active = true → s.recordsMatchTable = true →
    exec (.validationCompletion dt) s = .next t →
    let now := after s.now dt
    let blocked := fun e : Entry => e.zone.any fun z => (s.zones.get z).state.isBlocked
    let offWaits := fun (c : Chan) (k : EmitClass) =>
      t.onWaiting c = false ∧ ∃ rec, t.emit.recordOf (Chan.stage c) k = some rec ∧ ⟨Chan.output c, .off⟩ ∈ rec.settings
    (∀ st, t.stages.get st =
      if s.used st = false ∧ t.used st = true ∧ s.mode ≠ .config ∧ s.stagingSet.reportTimeout ≠ 0 then
        { s.stages.get st with
          presence := .silent, timer := some (after now (s.stagingSet.reportTimeout * 1000)) }
      else if s.used st = true ∧ t.used st = false then { s.stages.get st with timer := none }
      else s.stages.get st) ∧
    (∀ e ∈ s.staging, findEntry e.id s.active = none →
      let holds : Holds := ⟨s.mode == .config, s.mode == .safe, blocked e,
        (t.stages.get (Chan.stage e.id)).holdsOff, false⟩
      t.chan e.id =
        some ⟨e.id, if holds.isEmpty then .off else .forced, holds, .off, .on, none, none, none⟩ ∧
      offWaits e.id (if holds.isEmpty then .normal else .urgent)) ∧
    (∀ c, findEntry c s.staging = none → t.chan c = none) ∧
    (∀ c r o e, s.chan c = some r → findEntry c s.active = some o → findEntry c s.staging = some e →
      (o.zone = e.zone ∨ blocked e = r.holds.zone → t.chan c = some r) ∧
      (o.zone ≠ e.zone → blocked e = true → r.holds.zone = false →
        let held := { r with holds := r.holds.put .zone true }
        if r.holds.isEmpty then
          t.chan c = some { held with state := .forced, requested := .off, onTimer := none } ∧
          t.pend c = none ∧ t.ctxWith c = none ∧ (s.live c = true → offWaits c .urgent)
        else t.chan c = some held) ∧
      (o.zone ≠ e.zone → blocked e = false → r.holds.zone = true →
        let left := r.holds.put .zone false
        t.chan c = some (if left.isEmpty then { r with holds := left, state := .off, requested := .off }
          else { r with holds := left }))) ∧
    ((∀ e ∈ s.staging, ∀ o, findEntry e.id s.active = some o → o.zone = e.zone) →
      t.pendQ = s.pendQ ∧ t.ctxs = s.ctxs)

/-! ## START, STOP, SAFE and RESUME -/

/-- START in CONFIG with the committed flag set: RUN, with the window unsynchronised, the stages SILENT, the monitors
started, MODE gone from every channel, and nothing placed. From a CONFIG as it is (both zones INACTIVE, no stage LOST) a
channel of a zone that starts BLOCKED carries ZONE beside its other holds, and one without any is OFF. Refused NOT_READY or MODE otherwise. -/
def Obligations.StartTakesTheGuardToRun : Prop :=
  ∀ (dt : Nat) (tag : Byte) (s : State), s.serves →
    let w := s.arrived dt .u
    let now := after s.now dt
    (s.mode ≠ .config → exec (.start dt 15 tag []) s = .next (w.answered ⟨tag, 10, []⟩ .mode [])) ∧
    (s.mode = .config → s.committed = false →
      exec (.start dt 15 tag []) s = .next (w.answered ⟨tag, 10, []⟩ .notReady [])) ∧
    (s.mode = .config → s.committed = true → s.modeHoldsKept = true → s.recordsLawful = true →
      ∃ t, exec (.start dt 15 tag []) s = .next t ∧
        t = { w with
          mode := .run
          window := ⟨false, s.window.last⟩
          tick := if s.activeSet.tmin = 0 then ⟨.off, none, s.tick.fails⟩ else
            ⟨.openFirst, some (after now ((s.activeSet.tmin + s.activeSet.tw) * 1000)), s.tick.fails⟩
          stages := t.stages
          zones := t.zones
          chans := t.chans
          upQ := s.upQ ++ [respFrame ⟨tag, 10, []⟩ .ok [] { t with upQ := s.upQ }] } ∧
        (∀ st, t.stages.get st =
          ⟨.silent, 0, (s.stages.get st).fault,
            if s.used st ∧ s.activeSet.reportTimeout ≠ 0 then some (after now (s.activeSet.reportTimeout * 1000))
            else none⟩) ∧
        (∀ z, t.zones.get z = { s.zones.get z with
          timer := none
          state := match s.activeSet.zoneMode.get z with
            | .off => .inactive
            | .direct => if (s.zones.get z).recognised then .released else .blocked .lineLow
            | .toggle => .blocked .notYet }) ∧
        s.sameEmissions t ∧ t.recordsLawful = true ∧
        (∀ r ∈ t.chans, r.holds.mode = false ∧ (r.state = .off ∨ r.state = .forced)) ∧
        ((∀ z, (s.zones.get z).state = .inactive) → (∀ st, (s.stages.get st).presence ≠ .lost) →
          ∀ c r, s.chan c = some r →
            let blocked := (s.entry c).any fun e => e.zone.any fun z => (t.zones.get z).state.isBlocked
            let holds := { r.holds with mode := false, zone := r.holds.zone || blocked }
            t.chan c = some (if holds.isEmpty then { r with holds := holds, state := .off, requested := .off }
              else { r with holds := holds })))

/-- STOP in RUN or SAFE: CONFIG, with every stage quenched, every channel FORCED with MODE and with no hold left beside
it but a LOCK, the monitors and stage records at rest and what R123 keeps kept; refused MODE in CONFIG. -/
def Obligations.StopTakesTheGuardToConfig : Prop :=
  ∀ (dt : Nat) (tag : Byte) (s : State), s.serves →
    let w := s.arrived dt .u
    (s.mode = .config → exec (.stop dt 15 tag []) s = .next (w.answered ⟨tag, 11, []⟩ .mode [])) ∧
    (s.mode = .run ∨ s.mode = .safe → s.emit.closed = false → s.recordsLawful = true →
      ∃ t, exec (.stop dt 15 tag []) s = .next t ∧
        t = { w with
          mode := .config
          causes := Causes.none
          tick := ⟨.off, none, 0⟩
          stages := ⟨StageRec.initial, StageRec.initial, StageRec.initial, StageRec.initial⟩
          zones := ⟨{ s.zones.z0 with state := .inactive, timer := none },
            { s.zones.z1 with state := .inactive, timer := none }⟩
          chans := t.chans
          pendQ := t.pendQ
          ctxs := t.ctxs
          emit := t.emit
          upQ := s.upQ ++ [respFrame ⟨tag, 11, []⟩ .ok [] { t with upQ := s.upQ }] } ∧
        t.onlyQuenches ∧ s.emit.sameLine t.emit ∧ s.sameEmissions t ∧ s.freed t ∧
        (∀ r ∈ t.chans, r.heldBy .mode ∧ r.holds.safe = false) ∧
        (s.zoneHoldsMatch = true → s.stageHoldsMatch = true → ∀ c r, s.chan c = some r →
          ∃ r', t.chan c = some r' ∧ r'.holds = ⟨true, false, false, false, r.holds.lock⟩))

/-- SAFE enters COMMAND: from RUN it is the entry to SAFE, in SAFE it joins the set. RESUME removes COMMAND, CHARGE
and every LOCK, and returns to RUN when no cause is left. Both are refused MODE in CONFIG. -/
def Obligations.SafeAndResumeMoveTheCauses : Prop :=
  ∀ (dt : Nat) (tag : Byte) (s : State), s.serves →
    let w := s.arrived dt .u
    (s.mode = .config →
      exec (.safe dt 15 tag []) s = .next (w.answered ⟨tag, 12, []⟩ .mode []) ∧
      exec (.resume dt 15 tag []) s = .next (w.answered ⟨tag, 13, []⟩ .mode [])) ∧
    (s.mode = .safe →
      exec (.safe dt 15 tag []) s = .next
        (({ w with causes := { s.causes with command := true } } : State).answered ⟨tag, 12, []⟩ .ok [])) ∧
    (s.mode = .run → s.emit.closed = false → s.recordsLawful = true →
      ∃ t, exec (.safe dt 15 tag []) s = .next t ∧
        t = { w with
          mode := .safe
          causes := { s.causes with command := true }
          chans := t.chans
          pendQ := t.pendQ
          ctxs := t.ctxs
          emit := t.emit
          upQ := s.upQ ++ [respFrame ⟨tag, 12, []⟩ .ok [] { t with upQ := s.upQ }] } ∧
        t.onlyQuenches ∧ s.emit.sameLine t.emit ∧ s.sameEmissions t ∧ s.freed t ∧
        (∀ r ∈ t.chans, r.heldBy .safe)) ∧
    (s.mode = .run ∨ s.mode = .safe →
      let back := s.mode = .safe ∧ s.causes.stream = false
      exec (.resume dt 15 tag []) s = .next
        (({ w with
            causes := ⟨s.causes.stream, false, false⟩
            mode := if back then .run else s.mode
            chans := s.chans.map fun r =>
              if back then (r.release .lock).release .safe else r.release .lock } : State).answered
          ⟨tag, 13, []⟩ .ok []))

/-! ## The Fault Log -/

/-- LOG-READ answers the oldest records, three at the most, and they leave the log with the placing of the response,
which clears the overflow count when it empties the log; with the Upstream Queue full the response waits and nothing
leaves. A record is eight octets in the layout of R188. Every other request whose work ends at its event has, with the
Upstream Queue full, the effects it has on the same guard with an empty one, at that event, and the response it would place
there waits in REPLYING; the data of QUERY section 0, which carry the queue's length, are those of the full queue. -/
def Obligations.LogReadCarriesTheOldestRecords : Prop :=
  (∀ f : FaultRec, (∀ c n, f.kind = .chargeFail c n → n ≤ 7) → faultLayout f (faultOctets f)) ∧
  (∀ (dt : Nat) (tag n : Byte) (s : State), s.receives .u → s.handler = .idle → 1 ≤ n.toNat → n.toNat ≤ 4 →
    let w := s.arrived dt .u
    let k := min (min n.toNat s.log.length) 3
    (s.upQ.length < 8 →
      exec (.logRead dt 15 tag [n]) s = .next
        (({ w with
            log := s.log.drop k
            overflow := if k ≠ 0 ∧ s.log.drop k = [] then 0 else s.overflow } : State).answered
          ⟨tag, 14, [n]⟩ .ok ((s.log.take k).flatMap faultOctets))) ∧
    (8 ≤ s.upQ.length →
      exec (.logRead dt 15 tag [n]) s = .next { w with
        handler := .replying ⟨tag, 14, [n]⟩ ⟨.ok, (s.log.take k).flatMap faultOctets, k⟩ })) ∧
  (∀ (dt : Nat) (tag : Byte) (s : State), s.receives .u → s.handler = .idle → 8 ≤ s.upQ.length →
    let w := s.arrived dt .u
    exec (.query dt 15 tag [0]) s = .next { w with
      handler := .replying ⟨tag, 1, [0]⟩ ⟨.ok, querySection0 w, 0⟩ }) ∧
  ∀ (i : Instr) (req : Request) (s : State), i.mgmt = some (15, req) → req.args.length < 32 → s.receives .u →
    s.handler = .idle → 8 ≤ s.upQ.length → req.endsAtOnce s → ¬ req.takesRecords → ¬ (req.name = 1 ∧ req.args = [0]) →
    ∃ (v : State) (r : Result) (body : List Byte), v.upQ = [] ∧ v.handler = .idle ∧
      exec i { s with upQ := [] } = .next (v.answered req r body) ∧
      exec i s = .next { v with upQ := s.upQ, handler := .replying req ⟨r, body, 0⟩ }

/-! ## Stage reports -/

/-- A REPORT: the stage's record takes presence, timer, mask and flag, no other stage's record moves, and the frame
goes upward unchanged or is dropped and counted; where the report neither moves the STAGE hold, nor newly sets the
flag, nor takes away the bit of a target in ON, nothing else changes. A malformed REPORT is counted. -/
def Obligations.ReportUpdatesTheStageRecord : Prop :=
  ∀ (dt : Nat) (addr : BitVec 4) (seq : Byte) (payload : List Byte) (s : State), s.receives .d →
    let w := s.arrived dt .d
    (4 ≤ addr.toNat ∨ payload.length ≠ 3 →
      exec (.report dt addr seq payload) s = .next (count .dMalformed 1 w)) ∧
    (∀ st b1 b2 b3, stageOf addr = some st → payload = [b1, b2, b3] →
      let old := s.stages.get st
      let supervised := s.mode ≠ .config ∧ s.used st ∧ s.activeSet.reportTimeout ≠ 0
      let new : StageRec := {
        presence := if s.mode = .config then old.presence else .present
        mask := b1 ++ b2
        fault := b3.getLsbD 0
        timer := if supervised then some (after (after s.now dt) (s.activeSet.reportTimeout * 1000)) else old.timer }
      let forwarded := fun u : State =>
        if s.upQ.length < 8 then { u with upQ := s.upQ ++ [⟨.report, addr, seq, payload⟩] }
        else count .reportDrop 1 u
      ∃ t, exec (.report dt addr seq payload) s = .next t ∧ t.stages = s.stages.set st new ∧
        t.upQ = (forwarded w).upQ ∧ t.counts.reportDrop = (forwarded w).counts.reportDrop ∧
        ((old.holdsOff = new.holdsOff) → (new.fault = true → old.fault = true) →
          (∀ e ∈ s.active, Chan.stage e.id = st → e.precond ≠ none →
            old.mask.getLsbD (Chan.output e.id).val = true → new.mask.getLsbD (Chan.output e.id).val = false →
            ∀ r, s.chan e.id = some r → r.state ≠ .on) →
          t = forwarded { w with stages := s.stages.set st new }))

/-- A report that takes ready bits away recharges every target in ON whose bit falls: OFF placed NORMAL, on-timer stopped,
PRIMING with the request standing, a new context in CLEARING at attempt 1, and the recharge count increased; first one
target whole, then any number of them together, then one whose donor is held, where the open is a charge failure with no
attempt (R51). -/
def Obligations.FallingReadyBitRecharges : Prop :=
  ∀ (dt : Nat) (addr : BitVec 4) (st : Stage) (seq b1 b2 b3 : Byte) (s : State),
    s.receives .d → s.mode = .run → s.emit.closed = false → s.upQ.length < 8 → stageOf addr = some st →
    (s.stages.get st).presence ≠ .lost → (s.stages.get st).fault = false → b3.getLsbD 0 = false →
    let w := s.arrived dt .d
    let frame := exec (.report dt addr seq [b1, b2, b3]) s
    let report : Frame := ⟨.report, addr, seq, [b1, b2, b3]⟩
    let falls := fun e : Entry => Chan.stage e.id == st && e.precond.isSome &&
      (s.stages.get st).mask.getLsbD (Chan.output e.id).val && !(b1 ++ b2).getLsbD (Chan.output e.id).val
    let recharged := fun e : Entry => falls e && (s.chan e.id).any fun r => r.state == .on
    let primed := fun c : Chan => setState c .priming .on (stopOnTimer c (place c .off .normal w))
    (∀ e d pre rd, s.active.filter falls = [e] → s.entry e.id = some e → recharged e = true → e.partner = some d →
      e.precond = some pre → s.chan d = some rd → s.ctx e.id = none →
      (rd.holds.isEmpty = true →
        ∃ t, frame = .next t ∧ (t.stages.get st).mask = b1 ++ b2 ∧
          t = { count .recharge 1 (primed e.id) with
            ctxs := insertCtx ⟨e.id, d, .clearing, 1, pre.chargeTime, pre.attemptLimit, e.deadTime, none⟩ s.ctxs
            stages := t.stages
            upQ := s.upQ ++ [report] }) ∧
      (rd.holds.isEmpty = false →
        let u := makeRecord (.chargeFail e.id 0) (primed e.id)
        let failed := match e.policy with
          | .lock => addHold .lock e.id u
          | .safe => addCause .charge (setState e.id .off .off u)
        ∃ t, frame = .next t ∧ (t.stages.get st).mask = b1 ++ b2 ∧
          t = { count .recharge 1 failed with stages := t.stages, upQ := s.upQ ++ [report] })) ∧
    (tableLaw s.active = true →
      (∀ e ∈ s.active, recharged e = true → s.ctx e.id = none ∧
        ∀ d rd, e.partner = some d → s.chan d = some rd → rd.holds.isEmpty = true) →
      ∃ t, frame = .next t ∧ t.mode = s.mode ∧ t.log = s.log ∧ t.pendQ = s.pendQ ∧
        t.counts = s.counts.bump .recharge (s.active.countP recharged) ∧ s.emit.sameLine t.emit ∧
        (∀ e ∈ s.active, recharged e = true → ∀ r d pre, s.chan e.id = some r → e.partner = some d →
          e.precond = some pre →
          t.chan e.id = some { r with state := .priming, requested := .on, onTimer := none } ∧
          t.ctx e.id = some ⟨e.id, d, .clearing, 1, pre.chargeTime, pre.attemptLimit, e.deadTime, none⟩ ∧
          t.onWaiting e.id = false ∧
          ∃ rec, t.emit.recordOf st .normal = some rec ∧ ⟨Chan.output e.id, .off⟩ ∈ rec.settings) ∧
        (∀ c, (∀ e ∈ s.active, recharged e = true → e.id ≠ c) → t.chan c = s.chan c ∧ t.ctx c = s.ctx c))

/-- The expiry of a stage's report timer: LOST with its mask cleared and timer stopped, a STAGE_LOST record and no
recharge; every guarded channel of the stage FORCED with STAGE where the stage did not hold them yet, and no hold change
where it was faulted already. A report that newly sets a stage's fault flag makes a STAGE_FAULT record, and holds the
stage's guarded channels with STAGE unless the stage was LOST and so held them; one that clears the last condition of the
hold removes STAGE from them. -/
def Obligations.StageHoldFollowsLossAndFault : Prop :=
  (∀ (dt : Nat) (st : Stage) (due : Time) (s : State), s.inReset = false →
      (s.stages.get st).timer = some due → reached due (after s.now dt) = true → s.recordsLawful = true →
      ((s.stages.get st).holdsOff = true → ∀ r ∈ s.chans, Chan.stage r.id = st → r.holds.stage = true) →
      let made := s.logged (after s.now dt) [.stageLost st]
      ∃ t, exec (.reportTimerExpiry dt st) s = .next t ∧
        t = { s.advance dt with
          stages := s.stages.set st ⟨.lost, 0, (s.stages.get st).fault, none⟩
          log := made.1
          overflow := made.2
          chans := t.chans
          pendQ := t.pendQ
          ctxs := t.ctxs
          emit := t.emit } ∧
        s.emit.sameLine t.emit ∧ s.sameEmissions t ∧
        (∀ r ∈ t.chans, Chan.stage r.id = st → r.heldBy .stage) ∧
        (∀ c r, Chan.stage c ≠ st → s.chan c = some r → t.chan c = some r) ∧
        ((s.stages.get st).holdsOff = true →
          t.chans = s.chans ∧ t.pendQ = s.pendQ ∧ t.ctxs = s.ctxs ∧ t.emit = s.emit)) ∧
  (∀ (dt : Nat) (addr : BitVec 4) (seq b1 b2 b3 : Byte) (st : Stage) (s : State), s.receives .d →
      stageOf addr = some st → s.recordsLawful = true →
      ((s.stages.get st).holdsOff = true → ∀ r ∈ s.chans, Chan.stage r.id = st → r.holds.stage = true) →
      let made := s.logged (after s.now dt) [.stageFault st]
      ∃ t, exec (.report dt addr seq [b1, b2, b3]) s = .next t ∧
        ((s.stages.get st).fault = false → b3.getLsbD 0 = true →
          (∀ r ∈ t.chans, Chan.stage r.id = st → r.heldBy .stage) ∧
          t.counts.recharge = s.counts.recharge ∧ t.log = made.1 ∧ t.overflow = made.2 ∧
          ((s.stages.get st).presence = .lost →
            t.chans = s.chans ∧ t.pendQ = s.pendQ ∧ t.ctxs = s.ctxs ∧ t.emit = s.emit)) ∧
        ((s.stages.get st).holdsOff = true → b3.getLsbD 0 = false →
          ((s.stages.get st).presence ≠ .lost ∨ s.mode ≠ .config) →
          t.emit = s.emit ∧ t.log = s.log ∧
          t.chans = s.chans.map fun r => if Chan.stage r.id = st then r.release .stage else r))

/-! ## Zones -/

/-- A zone line's edge starts or ends the measurement; a level held for 10 µs is recognised, and the Zone Monitor
moves by its mode, with the ZONE hold of its zone following. The toggle timer of a RELEASED zone expires: BLOCKED
(TIMEOUT), the ZONE hold on its channels and a ZONE_TIMEOUT record. -/
def Obligations.ZoneMonitorsFollowTheirLines : Prop :=
  (∀ (dt : Nat) (z : Zone) (s : State), s.inReset = false → s.mode ≠ .shutdown →
      let u := s.zones.get z
      let now := after s.now dt
      (∀ high, exec (.zoneLineEdge dt z high) s = .next { s.advance dt with
        zones := s.zones.set z { u with
          line := high
          measuring := if high = u.recognised then none else some (u.measuring.getD now) } }) ∧
      (∀ began, u.measuring = some began → hasPassed began 10 now = true →
        let moved : ZoneState × Option Time :=
          match s.activeSet.zoneMode.get z, u.state, !u.recognised with
          | .direct, .released, false => (.blocked .lineLow, none)
          | .direct, .blocked .lineLow, true => (.released, none)
          | .toggle, .released, _ => (.released, some (after now (s.activeSet.zoneTimeout.get z * 1000)))
          | .toggle, .blocked .notYet, _ => (.released, some (after now (s.activeSet.zoneTimeout.get z * 1000)))
          | .toggle, .blocked .timeout, _ => (.released, some (after now (s.activeSet.zoneTimeout.get z * 1000)))
          | _, _, _ => (u.state, u.timer)
        ∃ t, exec (.recognisedChange dt z) s = .next t ∧
          t = { s.advance dt with
            zones := s.zones.set z ⟨u.line, !u.recognised, none, moved.1, moved.2⟩
            chans := t.chans
            pendQ := t.pendQ
            ctxs := t.ctxs
            emit := t.emit } ∧
          (moved.1.isBlocked = u.state.isBlocked →
            t.chans = s.chans ∧ t.pendQ = s.pendQ ∧ t.ctxs = s.ctxs ∧ t.emit = s.emit) ∧
          (moved.1.isBlocked = true → u.state.isBlocked = false → s.recordsLawful = true →
            s.emit.sameLine t.emit ∧ s.sameEmissions t ∧
            (∀ r ∈ t.chans, r.id ∈ s.guardedIn z → r.heldBy .zone) ∧
            (∀ c r, c ∉ s.guardedIn z → s.chan c = some r → t.chan c = some r)) ∧
          (moved.1.isBlocked = false → u.state.isBlocked = true →
            t.pendQ = s.pendQ ∧ t.ctxs = s.ctxs ∧ t.emit = s.emit ∧
            t.chans = s.chans.map fun r => if r.id ∈ s.guardedIn z then r.release .zone else r))) ∧
  (∀ (dt : Nat) (z : Zone) (due : Time) (s : State), s.inReset = false → (s.zones.get z).state = .released →
      (s.zones.get z).timer = some due → reached due (after s.now dt) = true → s.recordsLawful = true →
      let made := s.logged (after s.now dt) [.zoneTimeout z]
      ∃ t, exec (.toggleTimerExpiry dt z) s = .next t ∧
        t = { s.advance dt with
          zones := s.zones.set z { s.zones.get z with state := .blocked .timeout, timer := none }
          log := made.1
          overflow := made.2
          chans := t.chans
          pendQ := t.pendQ
          ctxs := t.ctxs
          emit := t.emit } ∧
        s.emit.sameLine t.emit ∧ s.sameEmissions t ∧
        (∀ r ∈ t.chans, r.id ∈ s.guardedIn z → r.heldBy .zone) ∧
        (∀ c r, c ∉ s.guardedIn z → s.chan c = some r → t.chan c = some r))

/-! ## Channels and charge contexts -/

/-- A due entry at the head of the Pending Queue is taken: a DEAD one runs the ON path again, a DWELL one places OFF.
The on-timer's expiry: in ON an URGENT OFF with a TRUNCATED record, in ON_HOLD the same without a record and with the
DWELL entry removed. -/
def Obligations.EntriesAndOnTimersFallDue : Prop :=
  (∀ (dt : Nat) (p : PendEntry) (rest : List PendEntry) (due : Time) (s : State), s.inReset = false →
      s.pendQ = p :: rest → p.due = some due → reached due (after s.now dt) = true →
      let w := removePend p.chan (s.advance dt)
      (p.reason = .dead → ∀ e, s.entry p.chan = some e →
        ∃ t, exec (.deadEntryTaken dt) s = .next t ∧ onPathLaw p.chan p.seq w t e) ∧
      (p.reason = .dwell →
        exec (.dwellEntryTaken dt) s =
          .next (setState p.chan .off .off (stopOnTimer p.chan (place p.chan .off .normal w))))) ∧
  (∀ (dt : Nat) (c : Chan) (r : ChanRec) (due : Time) (s : State), s.inReset = false → s.chan c = some r →
      r.onTimer = some due → reached due (after s.now dt) = true →
      let urgent := fun w : State => setState c .off .off (stopOnTimer c (place c .off .urgent w))
      (r.state = .on →
        exec (.onTimerExpiry dt c) s = .next (makeRecord (.truncated c) (urgent (s.advance dt)))) ∧
      (r.state = .onHold →
        exec (.onTimerExpiry dt c) s = .next (urgent (removePend c (s.advance dt)))))

/-- The phase timer's expiry in CLEARING judges the clearing condition again; in CHARGING it places the donor's OFF
and moves the context to DONOR_OFF. The settle read: success, the next attempt with its clearing condition judged at once,
or charge failure under either policy. -/
def Obligations.ChargePhaseTimersExpire : Prop :=
  ∀ (dt : Nat) (x : Ctx) (due : Time) (s : State), s.inReset = false → s.ctx x.target = some x →
    x.timer = some due → reached due (after s.now dt) = true →
    let w := s.advance dt
    (x.phase = .clearing → ∃ t, exec (.clearingTimerExpiry dt x.target) s = .next t ∧ clearingLaw x w t) ∧
    (x.phase = .charging →
      exec (.chargingExpiry dt x.target) s = .next
        (modCtx x.target (fun y => { y with phase := .donorOff, timer := none })
          (setState x.donor .off .off (place x.donor .off .normal w)))) ∧
    (x.phase = .settle → ∃ t, exec (.settleExpiry dt x.target) s = .next t ∧ settleLaw x w t)

/-- A hold added to a channel without one makes it FORCED by the steps of R42; a further hold only joins the set; a
hold removed leaves it FORCED or, as the last one, OFF, with nothing placed. What the placing of a setting (R88) and of a
quench (R90) makes of the waiting record of each stage and class, in a lawful Emit Queue; a closed one stores nothing
(R100). -/
def Obligations.HoldsForceAndReleaseChannels : Prop :=
  (∀ (k : HoldKind) (c : Chan) (r : ChanRec) (s : State), s.chan c = some r →
    (r.holds.isEmpty = true →
      (addHold k c s).chan c = some { r with
        state := .forced, requested := .off, holds := r.holds.put k true, onTimer := none } ∧
      (addHold k c s).pend c = none ∧ (addHold k c s).ctxWith c = none ∧
      (addHold k c s).emit = if s.live c then s.emit.place s.now c .off .urgent else s.emit) ∧
    (r.holds.isEmpty = false →
      addHold k c s = modChan c (fun r => { r with holds := r.holds.put k true }) s) ∧
    ((removeHold k c s).chan c = some
      (if r.holds.has k = false then r
       else if (r.holds.put k false).isEmpty then
        { r with holds := r.holds.put k false, state := .off, requested := .off }
       else { r with holds := r.holds.put k false })) ∧
    (removeHold k c s).emit = s.emit ∧ (removeHold k c s).pendQ = s.pendQ ∧
    (∀ d, d ≠ c → (addHold k c s).chan d = s.chan d ∧ (removeHold k c s).chan d = s.chan d)) ∧
  (∀ (q : EmitQueue) (now : Time) (c : Chan) (v : Level) (k : EmitClass), q.tidy = true →
    let st := Chan.stage c
    let o := Chan.output c
    let q' := q.place now c v k
    let stripped := fun st' k' => (q.recordOf st' k').bind fun r =>
      let left := r.settings.filter fun x => x.output != o
      if st' = st then if left = [] ∧ r.quench = false then none else some { r with settings := left } else some r
    (q.closed = true → q' = q) ∧
    (q.closed = false → q.sameLine q' ∧ q'.tidy = true ∧
      (∀ st' k', st' ≠ st ∨ k' ≠ k → q'.recordOf st' k' = stripped st' k') ∧
      match stripped st k with
      | none => q'.recordOf st k = some ⟨st, k, false, [⟨o, v⟩], now, q.nextOrder⟩ ∧ q'.nextOrder = q.nextOrder + 1
      | some r =>
        q'.recordOf st k = some { r with settings := r.settings ++ [⟨o, v⟩] } ∧ q'.nextOrder = q.nextOrder)) ∧
  (∀ (q : EmitQueue) (now : Time) (st : Stage), q.tidy = true →
    let q' := q.quenchStage now st
    (q.closed = true → q' = q) ∧
    (q.closed = false → q.sameLine q' ∧ q'.tidy = true ∧
      (∀ st' k', st' ≠ st → q'.recordOf st' k' = q.recordOf st' k') ∧ q'.recordOf st .normal = none ∧
      match q.recordOf st .urgent with
      | none => q'.recordOf st .urgent = some ⟨st, .urgent, true, [], now, q.nextOrder⟩ ∧
          q'.nextOrder = q.nextOrder + 1
      | some r => q'.recordOf st .urgent = some { r with settings := [], quench := true } ∧
          q'.nextOrder = q.nextOrder))

/-! ## The D-port and the U-port -/

/-- The arbiter with the transmitter IDLE and a record waiting: an URGENT record if one waits, else any, and none of
those it chose among is older; the record leaves the waiting part and is sent with the downstream sequence. A setting
record with a clear quench flag is sent as a DRIVE frame of its stage, a setting octet for each entry of its list in list
order: 1 to 16 of them where the Emit Queue is lawful. -/
def Obligations.ArbiterChoosesTheOldest : Prop :=
  (∀ (r : SetRec) (seq : Byte) (s : State), s.emit.dtx = .sending (.set r) seq → r.quench = false →
    s.dFrame = some ⟨.drive, BitVec.ofNat 4 r.stage.val, seq, r.settings.map settingOctet⟩) ∧
  (∀ (dt : Nat) (r : SetRec) (seq : Byte) (s t : State), s.inReset = false → s.emit.dtx = .idle →
    s.emit.tidy = true → exec (.arbiterChoice dt) s = .next t → t.emit.dtx = .sending (.set r) seq → r.quench = false →
    r ∈ s.emit.sets ∧ ∃ payload, t.dFrame = some ⟨.drive, BitVec.ofNat 4 r.stage.val, s.emit.dseq, payload⟩ ∧
      payload.length = r.settings.length ∧ 1 ≤ payload.length ∧ payload.length ≤ 16 ∧
      ∀ (n : Nat) (x : OutSetting), r.settings[n]? = some x → ∃ b, payload[n]? = some b ∧
        settingOutput b = x.output ∧ settingLevel b = x.level ∧ settingUnusedZero b = true) ∧
  ∀ (dt : Nat) (s : State), s.inReset = false → s.emit.dtx = .idle → s.emit.sets ≠ [] ∨ s.emit.auxs ≠ [] →
    let waiting := s.emit.sets.map EmitRec.set ++ s.emit.auxs.map EmitRec.aux
    let isUrgent := fun r : EmitRec => ∃ x, r = .set x ∧ x.cls = .urgent
    (∀ r ∈ waiting, elapsed r.age (after s.now dt) < 2 ^ 31) →
    ∃ r ∈ waiting,
      exec (.arbiterChoice dt) s = .next { s.advance dt with
        emit := { s.emit with
          sets := match r with
            | .set x => s.emit.sets.erase x
            | .aux _ => s.emit.sets
          auxs := match r with
            | .set _ => s.emit.auxs
            | .aux x => s.emit.auxs.erase x
          dtx := .sending r s.emit.dseq
          dseq := s.emit.dseq + 1 } } ∧
      ((∃ y ∈ waiting, isUrgent y) → isUrgent r) ∧
      ∀ y ∈ waiting, (isUrgent r → isUrgent y) →
        isBefore y.age r.age = false ∧ (y.age = r.age → r.order ≤ y.order)

/-- The downstream sequence counter moves at the arbiter's choice alone, by 1, and is 0 after the restarts. -/
def Obligations.DownstreamSequenceCountsChoices : Prop :=
  ∀ (c : Instr) (s t : State), exec c s = .next t →
    match c with
    | .arbiterChoice _ =>
      (t.emit.dseq = s.emit.dseq ∧ t.emit.dtx = s.emit.dtx) ∨
        (t.emit.dseq = s.emit.dseq + 1 ∧ ∃ r, t.emit.dtx = .sending r s.emit.dseq)
    | .deviceReset _ _ => t.emit.dseq = 0
    | .resetRelease _ _ => t.emit.dseq = s.emit.dseq ∨ t.emit.dseq = 0
    | .wakeRestart _ _ => t.emit.dseq = s.emit.dseq ∨ (t.mode = .config ∧ t.emit.dseq = 0)
    | _ => t.emit.dseq = s.emit.dseq

/-- An emission completion: the transmitter goes to GAP, and every runtime record the frame concerns has its effective
level and emission times set as R33 says, whatever consequences follow; no other record's change. -/
def Obligations.EmissionCompletionUpdatesTheRecords : Prop :=
  ∀ (dt : Nat) (rec : EmitRec) (seq : Byte) (s : State), s.inReset = false → s.emit.dtx = .sending rec seq →
    ∃ t, exec (.emissionCompletion dt) s = .next t ∧ t.emit.dtx = .gap ∧
      t.emit.dseq = s.emit.dseq ∧ t.active = s.active ∧
      t.chans.map ChanRec.emission = s.chans.map (fun r =>
        match rec.level r.id with
        | none => r.emission
        | some .on => (r.id, .on, r.lastOff, some (r.onTime.getD (after s.now dt)))
        | some .off => (r.id, .off, some (after s.now dt), none)) ∧
      (∀ x, rec = .aux x → t = { s.advance dt with emit := { s.emit with dtx := .gap } })

/-- What an emission completion brings, beside the updates of R33. First for a frame that carries a level for one guarded
channel which belongs to no context: an ON in state ON or ON_HOLD starts the on-timer and dates the DWELL entry, each taken
at once where it is then due; an OFF turns the partner's PARTNER entry into a DEAD entry, taken at once where the dead time
is 0. Then for the one open context a frame concerns, where no channel has such a consequence: the donor's ON ends
DONOR_ON, the donor's OFF ends DONOR_OFF, and in CLEARING the condition is judged again. -/
def Obligations.EmissionConsequences : Prop :=
  ∀ (dt : Nat) (rec : EmitRec) (seq : Byte) (s : State), s.inReset = false → s.emit.dtx = .sending rec seq →
    s.recordsMatchTable = true → tableLaw s.active = true → s.activeValid = true →
    let now := after s.now dt
    let w : State := { s.advance dt with
      emit := { s.emit with dtx := .gap }
      chans := s.chans.map fun r =>
        match rec.level r.id with
        | none => r
        | some .on => { r with effective := .on, onTime := some (r.onTime.getD now) }
        | some .off => { r with effective := .off, lastOff := some now, onTime := none } }
    let completed := exec (.emissionCompletion dt) s
    let partnerWaits := fun c : Chan =>
      (s.partner c).any fun d => (s.pend d).any fun p => p.reason == .partner
    (∀ c r e, s.chan c = some r → s.entry c = some e → s.ctxWith c = none →
      (∀ d, d ≠ c → s.chan d ≠ none ∨ s.ctxWith d ≠ none → rec.level d = none) →
      (rec.level c = some .on →
        let start := r.onTime.getD now
        let expiry := e.maxOn.map fun m => after start (m * 1000)
        let started := modChan c (fun q => { q with onTimer := r.onTimer.or expiry }) w
        let overdue := r.onTimer = none ∧ ∃ due, expiry = some due ∧ reached due now = true
        let off := fun (k : EmitClass) (u : State) => setState c .off .off (stopOnTimer c (place c .off k u))
        (r.state = .on → overdue → completed = .next (makeRecord (.truncated c) (off .urgent started))) ∧
        (r.state = .on → ¬ overdue → completed = .next started) ∧
        (r.state = .onHold → ∀ p, s.pend c = some p → p.reason = .dwell →
          let due := after start e.minDwell
          (p.due = none → reached due now = true → completed = .next (off .normal (removePend c started))) ∧
          (p.due ≠ none ∨ reached due now = false → overdue →
            completed = .next (off .urgent (removePend c started))) ∧
          (p.due = none → reached due now = false → ¬ overdue →
            completed = .next (fileDated c .dwell due p.seq (removePend c started))) ∧
          (p.due ≠ none → ¬ overdue → completed = .next started)) ∧
        (r.state ≠ .on → r.state ≠ .onHold → completed = .next w)) ∧
      (rec.level c = some .off →
        (partnerWaits c = false → completed = .next w) ∧
        (∀ d p ed, e.partner = some d → s.pend d = some p → p.reason = .partner → s.entry d = some ed →
          ed.deadTime ≤ 1023 →
          (ed.deadTime ≠ 0 →
            completed = .next (fileDated d .dead (after now ed.deadTime) p.seq (removePend d w))) ∧
          (ed.deadTime = 0 → ∃ t, completed = .next t ∧ onPathLaw d p.seq (removePend d w) t ed)))) ∧
    (∀ x, s.ctx x.target = some x → (s.ctxs.map Ctx.target).Nodup → x.deadTime ≤ 1023 →
      (∀ y ∈ s.ctxs, y ≠ x → rec.level y.target = none ∧ rec.level y.donor = none) →
      (∀ c r, s.chan c = some r → rec.level c = some .on → r.state ≠ .on ∧ r.state ≠ .onHold) →
      (∀ c r, s.chan c = some r → rec.level c = some .off → partnerWaits c = false) →
      match x.phase with
      | .clearing => if rec.level x.target = none then completed = .next w
          else ∃ t, completed = .next t ∧ clearingLaw x w t
      | .donorOn => completed = .next
          (if rec.level x.donor = some .on then
            modCtx x.target (fun y => { y with phase := .charging, timer := some (after now x.chargeTime) }) w
          else w)
      | .donorOff =>
        let y : Ctx := { x with phase := .settle, timer := some (after now x.deadTime) }
        let settling := modCtx x.target (fun _ => y) w
        if rec.level x.donor ≠ some .off then completed = .next w
        else if x.deadTime ≠ 0 then completed = .next settling
        else ∃ t, completed = .next t ∧ settleLaw y settling t
      | .charging => completed = .next w
      | .settle => completed = .next w)

/-- R96, whole: a quench record is sent as a QUENCH frame of its stage with the downstream sequence and no payload,
whatever its settings list, and its completion leaves every guarded channel of the stage effectively OFF. -/
def Obligations.QuenchRecordSentAsQuenchFrame : Prop :=
  ∀ (dt : Nat) (r : SetRec) (seq : Byte) (s : State), s.inReset = false → r.quench = true →
    s.emit.dtx = .sending (.set r) seq →
    s.dFrame = some ⟨.quench, BitVec.ofNat 4 r.stage.val, seq, []⟩ ∧
    ∃ t, exec (.emissionCompletion dt) s = .next t ∧
      t.guarded = s.guarded ∧ ∀ x ∈ t.chans, Chan.stage x.id = r.stage → x.effective = .off

/-- R97, whole: an AUX record is sent as an AUX frame of its stage with the downstream sequence and its own payload;
the sequence octet the controller gave is nowhere kept. -/
def Obligations.AuxRecordSentAsAuxFrame : Prop :=
  (∀ (r : AuxRec) (seq : Byte) (s : State), s.emit.dtx = .sending (.aux r) seq →
    s.dFrame = some ⟨.aux, BitVec.ofNat 4 r.stage.val, seq, r.payload⟩) ∧
  (∀ (dt : Nat) (r : AuxRec) (s t : State), s.inReset = false → s.emit.dtx = .idle →
    exec (.arbiterChoice dt) s = .next t → (∃ seq, t.emit.dtx = .sending (.aux r) seq) →
    r ∈ s.emit.auxs ∧ t.dFrame = some ⟨.aux, BitVec.ofNat 4 r.stage.val, s.emit.dseq, r.payload⟩ ∧
      (∀ f, t.dFrame = some f → f.checked.getD 2 0 = BitVec.ofNat 8 r.payload.length)) ∧
  (∀ (dt : Nat) (addr : BitVec 4) (seq1 seq2 : Byte) (payload : List Byte) (s : State),
    exec (.auxFrame dt addr seq1 payload) s = exec (.auxFrame dt addr seq2 payload) s)

/-- The gaps and the U-port transmitter: the D-port's gap ends in IDLE, or in SILENT when the closed flag is set and
nothing waits; the U-port takes the head, and a waiting response takes the room with its log removal; the frame's end
and the gap's end follow. -/
def Obligations.TransmittersMoveOn : Prop :=
  ∀ (dt : Nat) (s : State), s.inReset = false →
    (s.emit.dtx = .gap →
      exec (.dPortGapEnd dt) s = .next { s.advance dt with
        emit := { s.emit with
          dtx := if s.emit.closed = true ∧ s.emit.sets = [] ∧ s.emit.auxs = [] then .silent else .idle } }) ∧
    (∀ f rest, s.utx = .idle → s.upQ = f :: rest →
      ((∀ req resp, s.handler ≠ .replying req resp) →
        exec (.headTaken dt) s = .next { s.advance dt with utx := .sending f, upQ := rest }) ∧
      (∀ req resp, s.handler = .replying req resp →
        exec (.headTaken dt) s = .next
          (({ s.advance dt with
              utx := .sending f
              upQ := rest
              handler := .idle
              log := s.log.drop resp.taken
              overflow := if resp.taken ≠ 0 ∧ s.log.drop resp.taken = [] then 0 else s.overflow } : State).answered
            req resp.result resp.body))) ∧
    (∀ f, s.utx = .sending f → exec (.uPortFrameSent dt) s = .next { s.advance dt with utx := .gap }) ∧
    (s.utx = .gap → exec (.uPortGapEnd dt) s = .next { s.advance dt with utx := .idle })

/-! ## Receivers and layouts -/

/-- The receivers' faults: each discards the frame in progress into one count of its port; in HUNT only a frame that
comes whole is counted; a break leads to IDLE_WAIT and its end to HUNT. -/
def Obligations.ReceiverFaultsCountOnce : Prop :=
  ∀ (dt : Nat) (p : Port) (s : State), s.inReset = false → s.mode ≠ .shutdown →
    let w := s.advance dt
    let malformed : Counter := match p with
      | .u => .uMalformed
      | .d => .dMalformed
    let crcFault : Counter := match p with
      | .u => .uCrc
      | .d => .dCrc
    ((s.rx.get p).inProgress = true →
      exec (.framingFault dt p) s = .next (count malformed 1 (setRx p .hunt w)) ∧
      exec (.frameCutShort dt p) s = .next (count malformed 1 (setRx p .hunt w)) ∧
      exec (.breakBegin dt p) s = .next (count malformed 1 (setRx p .idleWait w))) ∧
    ((s.rx.get p).inProgress = false →
      exec (.framingFault dt p) s = .next w ∧ exec (.frameCutShort dt p) s = .next w ∧
      exec (.breakBegin dt p) s = .next (setRx p .idleWait w)) ∧
    (s.rx.get p ≠ .idleWait →
      exec (.lengthAbove32 dt p) s = .next (count malformed 1 (setRx p .hunt w)) ∧
      exec (.crcFault dt p) s = .next (count crcFault 1 (setRx p .hunt w)) ∧
      exec (.wrongKind dt p) s = .next (count malformed 1 (setRx p .hunt w))) ∧
    (s.rx.get p = .idleWait → exec (.breakEnd dt p) s = .next (setRx p .hunt w) ∧
      ∀ b, exec (.octetSampled dt p b) s = .next w)

/-- The octets of a whole frame, sampled one after another by a receiver in HUNT, have the effect of the frame's
command; the model's own event number, which they raise by one each, is set beside (log entry 18). A MGMT frame given
with its whole payload has the effect of the request its name octet names (log entry 21). One octet that completes no
frame moves the receiver alone, and a length octet above 32 discards the frame. The octet that completes a frame discards
it into the CRC count where the check differs, and into the malformed count where the check is right and the kind code is 0
or 8 to 15 or its kind is not received at the port. An octet is ten levels on its line, a low start bit, the eight data
bits, the least significant first, and a high stop bit, those of a frame back to back; ten levels with a low stop bit are a
framing fault. -/
def Obligations.OctetsMakeTheFrame : Prop :=
  (∀ (p : Port) (f : Frame) (s : State), s.receives p → s.rx.get p = .hunt → f.payload.length ≤ 32 →
    sampleAll p f.octets s = exec (f.command p) { s with eventNo := s.eventNo + (f.payload.length + 5) }) ∧
  (∀ (i : Instr) (addr : BitVec 4) (req : Request) (s : State), i.mgmt = some (addr, req) →
    exec (.unknownRequest i.dt addr req.tag (req.name :: req.args)) s = exec i s) ∧
  (∀ (dt : Nat) (p : Port) (b : Byte) (s : State), s.inReset = false → s.mode ≠ .shutdown →
    let w := s.advance dt
    (s.rx.get p = .hunt →
      exec (.octetSampled dt p b) s = .next (if b = 0xA5 then setRx p (.header []) w else w)) ∧
    (∀ got, s.rx.get p = .header got → got.length < 2 →
      exec (.octetSampled dt p b) s = .next (setRx p (.header (got ++ [b])) w)) ∧
    (∀ h0 h1, s.rx.get p = .header [h0, h1] →
      exec (.octetSampled dt p b) s = .next
        (if 32 < b.toNat then count (malformedCounter p) 1 (setRx p .hunt w) else setRx p (.body h0 h1 b []) w)) ∧
    (∀ h0 h1 h2 got, s.rx.get p = .body h0 h1 h2 got → got.length < h2.toNat + 1 →
      exec (.octetSampled dt p b) s = .next (setRx p (.body h0 h1 h2 (got ++ [b])) w)) ∧
    (∀ h0 h1 h2 payload hi, s.rx.get p = .body h0 h1 h2 (payload ++ [hi]) → payload.length = h2.toNat →
      let right := crc (h0 :: h1 :: h2 :: payload) = hi ++ b
      let code := h0.extractLsb' 4 4
      let crcFault : Counter := match p with
        | .u => .uCrc
        | .d => .dCrc
      (¬ right → exec (.octetSampled dt p b) s = .next (count crcFault 1 (setRx p .hunt w))) ∧
      (right → code = 0 ∨ 8 ≤ code.toNat ∨ (∃ k, kindCode k = code ∧ receivedAt p k = false) →
        exec (.octetSampled dt p b) s = .next (count (malformedCounter p) 1 (setRx p .hunt w))))) ∧
  (∀ (dt : Nat) (p : Port) (b : Byte), (octetLevels b).length = 10 ∧ (octetLevels b)[0]? = some false ∧
    (∀ n, n < 8 → (octetLevels b)[n + 1]? = some (b.getLsbD n)) ∧ (octetLevels b)[9]? = some true ∧
    levelsCommand dt p (octetLevels b) = .octetSampled dt p b) ∧
  (∀ (dt : Nat) (p : Port) (levels : List Bool), levels.length = 10 → levels[9]? = some false →
    levelsCommand dt p levels = .framingFault dt p) ∧
  (∀ (f : Frame) (n k : Nat), k < 10 → f.levels.length = 10 * (f.payload.length + 6) ∧
    f.levels[10 * n + k]? = (f.octets[n]?).bind fun b => (octetLevels b)[k]?)

/-- R185, whole: the setting octet and the REPORT payload, read and written, and a non-zero unused bit makes the frame
malformed. -/
def Obligations.SettingAndReportLayouts : Prop :=
  (∀ b : Byte, (settingLevel b = .on ↔ b.getLsbD 7 = true) ∧ (settingOutput b).val = b.toNat % 16 ∧
    (settingUnusedZero b = true ↔ b.getLsbD 6 = false ∧ b.getLsbD 5 = false ∧ b.getLsbD 4 = false)) ∧
  (∀ x : OutSetting, settingOutput (settingOctet x) = x.output ∧ settingLevel (settingOctet x) = x.level ∧
    settingUnusedZero (settingOctet x) = true) ∧
  (∀ (b1 b2 b3 : Byte) (n : Output),
    (reportMask b1 b2).getLsbD n.val = (if 8 ≤ n.val then b1.getLsbD (n.val - 8) else b2.getLsbD n.val) ∧
    reportFault b3 = b3.getLsbD 0) ∧
  (∀ (dt : Nat) (addr : BitVec 4) (seq b : Byte) (payload : List Byte) (s : State), s.receives .u → b ∈ payload →
    b.getLsbD 6 = true ∨ b.getLsbD 5 = true ∨ b.getLsbD 4 = true →
    exec (.driveFrame dt addr seq payload) s = .next (count .uMalformed 1 (s.arrived dt .u)))

/-- R189, whole: the bits of the status summary, and that it is payload octet 3 of a response or BUSY reply as the
state stands when the frame is placed. -/
def Obligations.StatusSummaryLayout : Prop :=
  (∀ s : State, s.mode ≠ .shutdown →
    s.summary.extractLsb' 5 3 = 0 ∧ s.summary.getLsbD 4 = s.committed ∧
    s.summary.getLsbD 3 = !s.log.isEmpty ∧ s.summary.getLsbD 2 = s.alert ∧
    s.summary.extractLsb' 0 2 = (match s.mode with
      | .config => 0
      | .run => 1
      | .safe => 2
      | .shutdown => 3)) ∧
  (∀ (req : Request) (resp : Response) (s : State),
    ∃ f, (placeResponse req resp s).upQ = s.upQ ++ [f] ∧
      f.payload.getD 2 0 = (placeResponse req resp s).summary) ∧
  (∀ (req : Request) (s : State), s.upQ.length < 8 →
    ∃ f, (busyReply req s).upQ = s.upQ ++ [f] ∧ f.payload.getD 2 0 = (busyReply req s).summary)

/-- A table entry and a Settings Record of 12 octets: what is in range is written in the layout of section 11.5 and read
back as it was written, and what is read is in range and written back as it was. -/
def Obligations.TwelveOctetLayoutsRoundTrip : Prop :=
  (∀ e : Entry, e.inRange → entryLayout e (encodeEntry e) ∧ decodeEntry (encodeEntry e) = some e) ∧
  (∀ bs e, decodeEntry bs = some e → encodeEntry e = bs ∧ bs.length = 12 ∧ e.inRange) ∧
  (∀ r : Settings, r.inRange → settingsLayout r (encodeSettings r) ∧ decodeSettings (encodeSettings r) = some r) ∧
  (∀ bs r, decodeSettings bs = some r → encodeSettings r = bs ∧ bs.length = 12 ∧ r.inRange)

/-! ## Invariants of every step -/

/-- The Emit Queue keeps its law: one waiting record for each stage and class, one setting for each channel, no empty
record, and four AUX records at the most. -/
def Obligations.EveryStepKeepsTheEmitQueueTidy : Prop :=
  ∀ s t : State, step s = .next t → s.emit.tidy = true → t.emit.tidy = true

/-- Both copies of the Channel Table stay in ascending order within 48 entries, and the runtime records are those of
the Active Copy's channels. -/
def Obligations.EveryStepKeepsTablesAndRecords : Prop :=
  ∀ s t : State, step s = .next t →
    tableLaw s.staging = true → tableLaw s.active = true → s.recordsMatchTable = true →
    tableLaw t.staging = true ∧ tableLaw t.active = true ∧ t.recordsMatchTable = true

/-- The Fault Log holds 16 records at the most and an overflow count only beside a record; the Upstream Queue holds 8
frames at the most. The log loses records only where a LOG-READ response is placed and at a device reset: every other
command leaves the records it found at the head, in their order. -/
def Obligations.EveryStepKeepsLogAndUpstreamLawful : Prop :=
  (∀ s t : State, step s = .next t →
      (s.logLaw = true → t.logLaw = true) ∧ (s.upstreamLaw = true → t.upstreamLaw = true)) ∧
  (∀ (c : Instr) (s t : State), exec c s = .next t → s.log <+: t.log ∨
      match c with
      | .logRead _ _ _ _ => True
      | .headTaken _ => True
      | .octetSampled _ _ _ => True
      | .unknownRequest _ _ _ _ => True
      | .deviceReset _ _ => True
      | .resetRelease _ _ => True
      | _ => False)

/-- Every guarded channel carries MODE in CONFIG and SHUTDOWN and SAFE in SAFE, and with the handler IDLE in SHUTDOWN
carries neither in another mode; the safe cause set is non-empty exactly in SAFE. -/
def Obligations.EveryStepKeepsTheModesHolds : Prop :=
  ∀ s t : State, step s = .next t →
    (s.modeHoldsKept = true → s.shutdownIdle = true → t.modeHoldsKept = true ∧ t.shutdownIdle = true) ∧
    (s.modeHoldsExact = true → s.shutdownIdle = true → t.modeHoldsExact = true) ∧
    (s.causesMatchMode = true → t.causesMatchMode = true)

/-- The fail count does not exceed a non-zero fail limit; with it the Tick Monitor is OFF in CONFIG, and a COMMIT in
WORKING outside CONFIG leaves the settings as they are. -/
def Obligations.EveryStepKeepsTheFailCountWithinItsLimit : Prop :=
  ∀ s t : State, step s = .next t →
    s.failLaw = true → s.configTickOff = true → s.workingLaw = true → s.shutdownIdle = true →
    t.failLaw = true ∧ t.configTickOff = true ∧ t.workingLaw = true ∧ t.shutdownIdle = true

/-- The attempt number of an open charge context lies between 1 and the attempt limit it copied; with it every
precondition of either copy has an attempt limit of at least 1. -/
def Obligations.EveryStepKeepsAttemptsWithinTheirLimit : Prop :=
  ∀ s t : State, step s = .next t →
    s.attemptLaw = true → attemptsLaw s.staging = true → attemptsLaw s.active = true →
    t.attemptLaw = true ∧ attemptsLaw t.staging = true ∧ attemptsLaw t.active = true

/-- The pair law with all the laws it rests on: the tables in order and valid, one runtime record for each active entry,
FORCED exactly when its hold set is not empty (R23), the causes and holds those of the mode, the zones and the stages
(R117, R118, R41), the Emit Queue tidy, an entry exactly in WAIT and ON_HOLD (R25), the contexts those of the states (R53),
requested levels those of the states and at most one of a pair requested ON (R30). With them the guard never places an ON
beside a live partner (R28): two live channels of a pair both carry the level ON of their adoption, no ON waits for either,
and one in transmission was there before the pair was guarded. -/
def Obligations.EveryStepKeepsTheGuardLawful : Prop :=
  ∀ s t : State, step s = .next t → s.lawful = true →
    t.lawful = true ∧
    ∀ e p, e ∈ t.active → e.partner = some p → t.live e.id = true → t.live p = true →
      ∀ c, c = e.id ∨ c = p →
        t.onWaiting c = false ∧
        (t.onSending c = true →
          s.onSending c = true ∧ (s.entry c = none ∨ (s.live e.id = true ∧ s.live p = true)))

end Statements
end

