-- ==== Sys2Proof/Laws/Checks.lean ====
section
/-! SUPPORT. The words of Safety.lean that the statements use, tied to the model's own operations: the checks of a COMMIT, and
the log after records are made. -/

namespace Sys2Proof.Machine

/-- The walk passes an entry exactly when the condition of no check holds of it (R12). -/
theorem checkEntry_none_iff (copy : List Entry) (e : Entry) :
    checkEntry copy e = none ↔ ∀ k, ¬ e.fails copy k := by
  have all : (∀ k, ¬ e.fails copy k) ↔
      ¬ e.fails copy .precondUnpaired ∧ ¬ e.fails copy .partnerSelf ∧ ¬ e.fails copy .partnerMissing ∧
      ¬ e.fails copy .partnerStage ∧ ¬ e.fails copy .partnerAsymmetric ∧ ¬ e.fails copy .deadMismatch ∧
      ¬ e.fails copy .zoneMismatch ∧ ¬ e.fails copy .precondBoth :=
    ⟨fun h => ⟨h _, h _, h _, h _, h _, h _, h _, h _⟩, fun ⟨h1, h2, h3, h4, h5, h6, h7, h8⟩ k => by cases k <;> assumption⟩
  rw [all]
  simp only [Entry.fails, checkEntry]
  cases hp : e.partner with
  | none => cases e.precond <;> simp
  | some p =>
    by_cases h : p = e.id
    · simp [h]
    · cases hf : findEntry p copy with
      | none => simp [h, hf]
      | some q =>
        simp only [h, hf, if_false, Option.some.injEq]
        cases hq : q.precond <;> cases e.precond <;> split_ifs <;> simp_all

/-- A channel passes the install check exactly when the condition of R14's failure does not hold of it. -/
theorem passesInstall_iff (s : State) (e : Entry) : passesInstall s e = true ↔ ¬ s.failsInstall e := by
  unfold passesInstall State.failsInstall
  cases s.chan e.id with
  | none => simp
  | some r =>
    simp only [Option.some.injEq, exists_eq_left']
    split
    · cases s.live e.id <;> cases findEntry e.id s.staging <;> simp
    · cases findEntry e.id s.staging with
      | none => simp
      | some n => cases hn : n.precond <;> cases e.precond <;> simp [hn]

/-- A record made is one of the records `State.logged` makes (R173). -/
theorem makeRecord_logged (k : FaultKind) (s : State) :
    makeRecord k s =
      { s with log := (s.logged s.now [k]).1, overflow := (s.logged s.now [k]).2 } := by
  unfold makeRecord State.logged Config.logCapacity
  have small : s.overflow.toNat ≤ 255 := by omega
  split
  · next h =>
    obtain ⟨n, hn⟩ : ∃ n, 16 - s.log.length = n + 1 := ⟨15 - s.log.length, by omega⟩
    simp [hn, Nat.min_eq_right small]
  · next h =>
    have hn : 16 - s.log.length = 0 := by omega
    simp only [hn, List.take_zero, List.map_nil, List.append_nil, List.drop_zero, List.length_singleton, satInc8]
    congr 1
    split
    · next h => simp [h]
    · next h =>
      have : s.overflow.toNat ≠ 255 := fun e => h (BitVec.eq_of_toNat_eq e)
      apply BitVec.eq_of_toNat_eq
      simp
      omega

end Sys2Proof.Machine
end

