-- ==== Sys2Proof/Laws/State.lean ====
section
/-! SUPPORT. One lemma for each field of State after each elementary operation, so that no later proof unfolds a record update. -/

namespace Sys2Proof.Machine

/-! ## advance -/

@[simp] theorem advance_pending (dt : Nat) (s : State) : (State.advance dt s).pending = s.pending := rfl
@[simp] theorem advance_rstn (dt : Nat) (s : State) : (State.advance dt s).rstn = s.rstn := rfl
@[simp] theorem advance_supplyLow (dt : Nat) (s : State) : (State.advance dt s).supplyLow = s.supplyLow := rfl
@[simp] theorem advance_now (dt : Nat) (s : State) : (State.advance dt s).now = after s.now dt := rfl
@[simp] theorem advance_eventNo (dt : Nat) (s : State) : (State.advance dt s).eventNo = s.eventNo + 1 := rfl
@[simp] theorem advance_mode (dt : Nat) (s : State) : (State.advance dt s).mode = s.mode := rfl
@[simp] theorem advance_causes (dt : Nat) (s : State) : (State.advance dt s).causes = s.causes := rfl
@[simp] theorem advance_startupHold (dt : Nat) (s : State) : (State.advance dt s).startupHold = s.startupHold := rfl
@[simp] theorem advance_shutdownFor (dt : Nat) (s : State) : (State.advance dt s).shutdownFor = if s.mode = .shutdown then s.shutdownFor + dt else s.shutdownFor := rfl
@[simp] theorem advance_staging (dt : Nat) (s : State) : (State.advance dt s).staging = s.staging := rfl
@[simp] theorem advance_active (dt : Nat) (s : State) : (State.advance dt s).active = s.active := rfl
@[simp] theorem advance_stagingSet (dt : Nat) (s : State) : (State.advance dt s).stagingSet = s.stagingSet := rfl
@[simp] theorem advance_activeSet (dt : Nat) (s : State) : (State.advance dt s).activeSet = s.activeSet := rfl
@[simp] theorem advance_committed (dt : Nat) (s : State) : (State.advance dt s).committed = s.committed := rfl
@[simp] theorem advance_chans (dt : Nat) (s : State) : (State.advance dt s).chans = s.chans := rfl
@[simp] theorem advance_pendQ (dt : Nat) (s : State) : (State.advance dt s).pendQ = s.pendQ := rfl
@[simp] theorem advance_ctxs (dt : Nat) (s : State) : (State.advance dt s).ctxs = s.ctxs := rfl
@[simp] theorem advance_window (dt : Nat) (s : State) : (State.advance dt s).window = s.window := rfl
@[simp] theorem advance_lastRefusal (dt : Nat) (s : State) : (State.advance dt s).lastRefusal = s.lastRefusal := rfl
@[simp] theorem advance_counts (dt : Nat) (s : State) : (State.advance dt s).counts = s.counts := rfl
@[simp] theorem advance_emit (dt : Nat) (s : State) : (State.advance dt s).emit = s.emit := rfl
@[simp] theorem advance_stages (dt : Nat) (s : State) : (State.advance dt s).stages = s.stages := rfl
@[simp] theorem advance_upQ (dt : Nat) (s : State) : (State.advance dt s).upQ = s.upQ := rfl
@[simp] theorem advance_utx (dt : Nat) (s : State) : (State.advance dt s).utx = s.utx := rfl
@[simp] theorem advance_tick (dt : Nat) (s : State) : (State.advance dt s).tick = s.tick := rfl
@[simp] theorem advance_zones (dt : Nat) (s : State) : (State.advance dt s).zones = s.zones := rfl
@[simp] theorem advance_handler (dt : Nat) (s : State) : (State.advance dt s).handler = s.handler := rfl
@[simp] theorem advance_log (dt : Nat) (s : State) : (State.advance dt s).log = s.log := rfl
@[simp] theorem advance_overflow (dt : Nat) (s : State) : (State.advance dt s).overflow = s.overflow := rfl
@[simp] theorem advance_rx (dt : Nat) (s : State) : (State.advance dt s).rx = s.rx := rfl

/-! ## count -/

@[simp] theorem count_pending (k : Counter) (n : Nat) (s : State) : (count k n s).pending = s.pending := rfl
@[simp] theorem count_rstn (k : Counter) (n : Nat) (s : State) : (count k n s).rstn = s.rstn := rfl
@[simp] theorem count_supplyLow (k : Counter) (n : Nat) (s : State) : (count k n s).supplyLow = s.supplyLow := rfl
@[simp] theorem count_now (k : Counter) (n : Nat) (s : State) : (count k n s).now = s.now := rfl
@[simp] theorem count_eventNo (k : Counter) (n : Nat) (s : State) : (count k n s).eventNo = s.eventNo := rfl
@[simp] theorem count_mode (k : Counter) (n : Nat) (s : State) : (count k n s).mode = s.mode := rfl
@[simp] theorem count_causes (k : Counter) (n : Nat) (s : State) : (count k n s).causes = s.causes := rfl
@[simp] theorem count_startupHold (k : Counter) (n : Nat) (s : State) : (count k n s).startupHold = s.startupHold := rfl
@[simp] theorem count_shutdownFor (k : Counter) (n : Nat) (s : State) : (count k n s).shutdownFor = s.shutdownFor := rfl
@[simp] theorem count_staging (k : Counter) (n : Nat) (s : State) : (count k n s).staging = s.staging := rfl
@[simp] theorem count_active (k : Counter) (n : Nat) (s : State) : (count k n s).active = s.active := rfl
@[simp] theorem count_stagingSet (k : Counter) (n : Nat) (s : State) : (count k n s).stagingSet = s.stagingSet := rfl
@[simp] theorem count_activeSet (k : Counter) (n : Nat) (s : State) : (count k n s).activeSet = s.activeSet := rfl
@[simp] theorem count_committed (k : Counter) (n : Nat) (s : State) : (count k n s).committed = s.committed := rfl
@[simp] theorem count_chans (k : Counter) (n : Nat) (s : State) : (count k n s).chans = s.chans := rfl
@[simp] theorem count_pendQ (k : Counter) (n : Nat) (s : State) : (count k n s).pendQ = s.pendQ := rfl
@[simp] theorem count_ctxs (k : Counter) (n : Nat) (s : State) : (count k n s).ctxs = s.ctxs := rfl
@[simp] theorem count_window (k : Counter) (n : Nat) (s : State) : (count k n s).window = s.window := rfl
@[simp] theorem count_lastRefusal (k : Counter) (n : Nat) (s : State) : (count k n s).lastRefusal = s.lastRefusal := rfl
@[simp] theorem count_counts (k : Counter) (n : Nat) (s : State) : (count k n s).counts = s.counts.bump k n := rfl
@[simp] theorem count_emit (k : Counter) (n : Nat) (s : State) : (count k n s).emit = s.emit := rfl
@[simp] theorem count_stages (k : Counter) (n : Nat) (s : State) : (count k n s).stages = s.stages := rfl
@[simp] theorem count_upQ (k : Counter) (n : Nat) (s : State) : (count k n s).upQ = s.upQ := rfl
@[simp] theorem count_utx (k : Counter) (n : Nat) (s : State) : (count k n s).utx = s.utx := rfl
@[simp] theorem count_tick (k : Counter) (n : Nat) (s : State) : (count k n s).tick = s.tick := rfl
@[simp] theorem count_zones (k : Counter) (n : Nat) (s : State) : (count k n s).zones = s.zones := rfl
@[simp] theorem count_handler (k : Counter) (n : Nat) (s : State) : (count k n s).handler = s.handler := rfl
@[simp] theorem count_log (k : Counter) (n : Nat) (s : State) : (count k n s).log = s.log := rfl
@[simp] theorem count_overflow (k : Counter) (n : Nat) (s : State) : (count k n s).overflow = s.overflow := rfl
@[simp] theorem count_rx (k : Counter) (n : Nat) (s : State) : (count k n s).rx = s.rx := rfl

/-! ## setRx -/

@[simp] theorem setRx_pending (p : Port) (r : Receiver) (s : State) : (setRx p r s).pending = s.pending := rfl
@[simp] theorem setRx_rstn (p : Port) (r : Receiver) (s : State) : (setRx p r s).rstn = s.rstn := rfl
@[simp] theorem setRx_supplyLow (p : Port) (r : Receiver) (s : State) : (setRx p r s).supplyLow = s.supplyLow := rfl
@[simp] theorem setRx_now (p : Port) (r : Receiver) (s : State) : (setRx p r s).now = s.now := rfl
@[simp] theorem setRx_eventNo (p : Port) (r : Receiver) (s : State) : (setRx p r s).eventNo = s.eventNo := rfl
@[simp] theorem setRx_mode (p : Port) (r : Receiver) (s : State) : (setRx p r s).mode = s.mode := rfl
@[simp] theorem setRx_causes (p : Port) (r : Receiver) (s : State) : (setRx p r s).causes = s.causes := rfl
@[simp] theorem setRx_startupHold (p : Port) (r : Receiver) (s : State) : (setRx p r s).startupHold = s.startupHold := rfl
@[simp] theorem setRx_shutdownFor (p : Port) (r : Receiver) (s : State) : (setRx p r s).shutdownFor = s.shutdownFor := rfl
@[simp] theorem setRx_staging (p : Port) (r : Receiver) (s : State) : (setRx p r s).staging = s.staging := rfl
@[simp] theorem setRx_active (p : Port) (r : Receiver) (s : State) : (setRx p r s).active = s.active := rfl
@[simp] theorem setRx_stagingSet (p : Port) (r : Receiver) (s : State) : (setRx p r s).stagingSet = s.stagingSet := rfl
@[simp] theorem setRx_activeSet (p : Port) (r : Receiver) (s : State) : (setRx p r s).activeSet = s.activeSet := rfl
@[simp] theorem setRx_committed (p : Port) (r : Receiver) (s : State) : (setRx p r s).committed = s.committed := rfl
@[simp] theorem setRx_chans (p : Port) (r : Receiver) (s : State) : (setRx p r s).chans = s.chans := rfl
@[simp] theorem setRx_pendQ (p : Port) (r : Receiver) (s : State) : (setRx p r s).pendQ = s.pendQ := rfl
@[simp] theorem setRx_ctxs (p : Port) (r : Receiver) (s : State) : (setRx p r s).ctxs = s.ctxs := rfl
@[simp] theorem setRx_window (p : Port) (r : Receiver) (s : State) : (setRx p r s).window = s.window := rfl
@[simp] theorem setRx_lastRefusal (p : Port) (r : Receiver) (s : State) : (setRx p r s).lastRefusal = s.lastRefusal := rfl
@[simp] theorem setRx_counts (p : Port) (r : Receiver) (s : State) : (setRx p r s).counts = s.counts := rfl
@[simp] theorem setRx_emit (p : Port) (r : Receiver) (s : State) : (setRx p r s).emit = s.emit := rfl
@[simp] theorem setRx_stages (p : Port) (r : Receiver) (s : State) : (setRx p r s).stages = s.stages := rfl
@[simp] theorem setRx_upQ (p : Port) (r : Receiver) (s : State) : (setRx p r s).upQ = s.upQ := rfl
@[simp] theorem setRx_utx (p : Port) (r : Receiver) (s : State) : (setRx p r s).utx = s.utx := rfl
@[simp] theorem setRx_tick (p : Port) (r : Receiver) (s : State) : (setRx p r s).tick = s.tick := rfl
@[simp] theorem setRx_zones (p : Port) (r : Receiver) (s : State) : (setRx p r s).zones = s.zones := rfl
@[simp] theorem setRx_handler (p : Port) (r : Receiver) (s : State) : (setRx p r s).handler = s.handler := rfl
@[simp] theorem setRx_log (p : Port) (r : Receiver) (s : State) : (setRx p r s).log = s.log := rfl
@[simp] theorem setRx_overflow (p : Port) (r : Receiver) (s : State) : (setRx p r s).overflow = s.overflow := rfl
@[simp] theorem setRx_rx (p : Port) (r : Receiver) (s : State) : (setRx p r s).rx = s.rx.set p r := rfl

/-! ## modChan -/

@[simp] theorem modChan_pending (c : Chan) (f : ChanRec → ChanRec) (s : State) : (modChan c f s).pending = s.pending := rfl
@[simp] theorem modChan_rstn (c : Chan) (f : ChanRec → ChanRec) (s : State) : (modChan c f s).rstn = s.rstn := rfl
@[simp] theorem modChan_supplyLow (c : Chan) (f : ChanRec → ChanRec) (s : State) : (modChan c f s).supplyLow = s.supplyLow := rfl
@[simp] theorem modChan_now (c : Chan) (f : ChanRec → ChanRec) (s : State) : (modChan c f s).now = s.now := rfl
@[simp] theorem modChan_eventNo (c : Chan) (f : ChanRec → ChanRec) (s : State) : (modChan c f s).eventNo = s.eventNo := rfl
@[simp] theorem modChan_mode (c : Chan) (f : ChanRec → ChanRec) (s : State) : (modChan c f s).mode = s.mode := rfl
@[simp] theorem modChan_causes (c : Chan) (f : ChanRec → ChanRec) (s : State) : (modChan c f s).causes = s.causes := rfl
@[simp] theorem modChan_startupHold (c : Chan) (f : ChanRec → ChanRec) (s : State) : (modChan c f s).startupHold = s.startupHold := rfl
@[simp] theorem modChan_shutdownFor (c : Chan) (f : ChanRec → ChanRec) (s : State) : (modChan c f s).shutdownFor = s.shutdownFor := rfl
@[simp] theorem modChan_staging (c : Chan) (f : ChanRec → ChanRec) (s : State) : (modChan c f s).staging = s.staging := rfl
@[simp] theorem modChan_active (c : Chan) (f : ChanRec → ChanRec) (s : State) : (modChan c f s).active = s.active := rfl
@[simp] theorem modChan_stagingSet (c : Chan) (f : ChanRec → ChanRec) (s : State) : (modChan c f s).stagingSet = s.stagingSet := rfl
@[simp] theorem modChan_activeSet (c : Chan) (f : ChanRec → ChanRec) (s : State) : (modChan c f s).activeSet = s.activeSet := rfl
@[simp] theorem modChan_committed (c : Chan) (f : ChanRec → ChanRec) (s : State) : (modChan c f s).committed = s.committed := rfl
@[simp] theorem modChan_chans (c : Chan) (f : ChanRec → ChanRec) (s : State) : (modChan c f s).chans = s.chans.map fun r => if r.id = c then f r else r := rfl
@[simp] theorem modChan_pendQ (c : Chan) (f : ChanRec → ChanRec) (s : State) : (modChan c f s).pendQ = s.pendQ := rfl
@[simp] theorem modChan_ctxs (c : Chan) (f : ChanRec → ChanRec) (s : State) : (modChan c f s).ctxs = s.ctxs := rfl
@[simp] theorem modChan_window (c : Chan) (f : ChanRec → ChanRec) (s : State) : (modChan c f s).window = s.window := rfl
@[simp] theorem modChan_lastRefusal (c : Chan) (f : ChanRec → ChanRec) (s : State) : (modChan c f s).lastRefusal = s.lastRefusal := rfl
@[simp] theorem modChan_counts (c : Chan) (f : ChanRec → ChanRec) (s : State) : (modChan c f s).counts = s.counts := rfl
@[simp] theorem modChan_emit (c : Chan) (f : ChanRec → ChanRec) (s : State) : (modChan c f s).emit = s.emit := rfl
@[simp] theorem modChan_stages (c : Chan) (f : ChanRec → ChanRec) (s : State) : (modChan c f s).stages = s.stages := rfl
@[simp] theorem modChan_upQ (c : Chan) (f : ChanRec → ChanRec) (s : State) : (modChan c f s).upQ = s.upQ := rfl
@[simp] theorem modChan_utx (c : Chan) (f : ChanRec → ChanRec) (s : State) : (modChan c f s).utx = s.utx := rfl
@[simp] theorem modChan_tick (c : Chan) (f : ChanRec → ChanRec) (s : State) : (modChan c f s).tick = s.tick := rfl
@[simp] theorem modChan_zones (c : Chan) (f : ChanRec → ChanRec) (s : State) : (modChan c f s).zones = s.zones := rfl
@[simp] theorem modChan_handler (c : Chan) (f : ChanRec → ChanRec) (s : State) : (modChan c f s).handler = s.handler := rfl
@[simp] theorem modChan_log (c : Chan) (f : ChanRec → ChanRec) (s : State) : (modChan c f s).log = s.log := rfl
@[simp] theorem modChan_overflow (c : Chan) (f : ChanRec → ChanRec) (s : State) : (modChan c f s).overflow = s.overflow := rfl
@[simp] theorem modChan_rx (c : Chan) (f : ChanRec → ChanRec) (s : State) : (modChan c f s).rx = s.rx := rfl

/-! ## setState -/

@[simp] theorem setState_pending (c : Chan) (st : ChState) (v : Level) (s : State) : (setState c st v s).pending = s.pending := rfl
@[simp] theorem setState_rstn (c : Chan) (st : ChState) (v : Level) (s : State) : (setState c st v s).rstn = s.rstn := rfl
@[simp] theorem setState_supplyLow (c : Chan) (st : ChState) (v : Level) (s : State) : (setState c st v s).supplyLow = s.supplyLow := rfl
@[simp] theorem setState_now (c : Chan) (st : ChState) (v : Level) (s : State) : (setState c st v s).now = s.now := rfl
@[simp] theorem setState_eventNo (c : Chan) (st : ChState) (v : Level) (s : State) : (setState c st v s).eventNo = s.eventNo := rfl
@[simp] theorem setState_mode (c : Chan) (st : ChState) (v : Level) (s : State) : (setState c st v s).mode = s.mode := rfl
@[simp] theorem setState_causes (c : Chan) (st : ChState) (v : Level) (s : State) : (setState c st v s).causes = s.causes := rfl
@[simp] theorem setState_startupHold (c : Chan) (st : ChState) (v : Level) (s : State) : (setState c st v s).startupHold = s.startupHold := rfl
@[simp] theorem setState_shutdownFor (c : Chan) (st : ChState) (v : Level) (s : State) : (setState c st v s).shutdownFor = s.shutdownFor := rfl
@[simp] theorem setState_staging (c : Chan) (st : ChState) (v : Level) (s : State) : (setState c st v s).staging = s.staging := rfl
@[simp] theorem setState_active (c : Chan) (st : ChState) (v : Level) (s : State) : (setState c st v s).active = s.active := rfl
@[simp] theorem setState_stagingSet (c : Chan) (st : ChState) (v : Level) (s : State) : (setState c st v s).stagingSet = s.stagingSet := rfl
@[simp] theorem setState_activeSet (c : Chan) (st : ChState) (v : Level) (s : State) : (setState c st v s).activeSet = s.activeSet := rfl
@[simp] theorem setState_committed (c : Chan) (st : ChState) (v : Level) (s : State) : (setState c st v s).committed = s.committed := rfl
@[simp] theorem setState_chans (c : Chan) (st : ChState) (v : Level) (s : State) : (setState c st v s).chans = s.chans.map fun r => if r.id = c then { r with state := st, requested := v } else r := rfl
@[simp] theorem setState_pendQ (c : Chan) (st : ChState) (v : Level) (s : State) : (setState c st v s).pendQ = s.pendQ := rfl
@[simp] theorem setState_ctxs (c : Chan) (st : ChState) (v : Level) (s : State) : (setState c st v s).ctxs = s.ctxs := rfl
@[simp] theorem setState_window (c : Chan) (st : ChState) (v : Level) (s : State) : (setState c st v s).window = s.window := rfl
@[simp] theorem setState_lastRefusal (c : Chan) (st : ChState) (v : Level) (s : State) : (setState c st v s).lastRefusal = s.lastRefusal := rfl
@[simp] theorem setState_counts (c : Chan) (st : ChState) (v : Level) (s : State) : (setState c st v s).counts = s.counts := rfl
@[simp] theorem setState_emit (c : Chan) (st : ChState) (v : Level) (s : State) : (setState c st v s).emit = s.emit := rfl
@[simp] theorem setState_stages (c : Chan) (st : ChState) (v : Level) (s : State) : (setState c st v s).stages = s.stages := rfl
@[simp] theorem setState_upQ (c : Chan) (st : ChState) (v : Level) (s : State) : (setState c st v s).upQ = s.upQ := rfl
@[simp] theorem setState_utx (c : Chan) (st : ChState) (v : Level) (s : State) : (setState c st v s).utx = s.utx := rfl
@[simp] theorem setState_tick (c : Chan) (st : ChState) (v : Level) (s : State) : (setState c st v s).tick = s.tick := rfl
@[simp] theorem setState_zones (c : Chan) (st : ChState) (v : Level) (s : State) : (setState c st v s).zones = s.zones := rfl
@[simp] theorem setState_handler (c : Chan) (st : ChState) (v : Level) (s : State) : (setState c st v s).handler = s.handler := rfl
@[simp] theorem setState_log (c : Chan) (st : ChState) (v : Level) (s : State) : (setState c st v s).log = s.log := rfl
@[simp] theorem setState_overflow (c : Chan) (st : ChState) (v : Level) (s : State) : (setState c st v s).overflow = s.overflow := rfl
@[simp] theorem setState_rx (c : Chan) (st : ChState) (v : Level) (s : State) : (setState c st v s).rx = s.rx := rfl

/-! ## stopOnTimer -/

@[simp] theorem stopOnTimer_pending (c : Chan) (s : State) : (stopOnTimer c s).pending = s.pending := rfl
@[simp] theorem stopOnTimer_rstn (c : Chan) (s : State) : (stopOnTimer c s).rstn = s.rstn := rfl
@[simp] theorem stopOnTimer_supplyLow (c : Chan) (s : State) : (stopOnTimer c s).supplyLow = s.supplyLow := rfl
@[simp] theorem stopOnTimer_now (c : Chan) (s : State) : (stopOnTimer c s).now = s.now := rfl
@[simp] theorem stopOnTimer_eventNo (c : Chan) (s : State) : (stopOnTimer c s).eventNo = s.eventNo := rfl
@[simp] theorem stopOnTimer_mode (c : Chan) (s : State) : (stopOnTimer c s).mode = s.mode := rfl
@[simp] theorem stopOnTimer_causes (c : Chan) (s : State) : (stopOnTimer c s).causes = s.causes := rfl
@[simp] theorem stopOnTimer_startupHold (c : Chan) (s : State) : (stopOnTimer c s).startupHold = s.startupHold := rfl
@[simp] theorem stopOnTimer_shutdownFor (c : Chan) (s : State) : (stopOnTimer c s).shutdownFor = s.shutdownFor := rfl
@[simp] theorem stopOnTimer_staging (c : Chan) (s : State) : (stopOnTimer c s).staging = s.staging := rfl
@[simp] theorem stopOnTimer_active (c : Chan) (s : State) : (stopOnTimer c s).active = s.active := rfl
@[simp] theorem stopOnTimer_stagingSet (c : Chan) (s : State) : (stopOnTimer c s).stagingSet = s.stagingSet := rfl
@[simp] theorem stopOnTimer_activeSet (c : Chan) (s : State) : (stopOnTimer c s).activeSet = s.activeSet := rfl
@[simp] theorem stopOnTimer_committed (c : Chan) (s : State) : (stopOnTimer c s).committed = s.committed := rfl
@[simp] theorem stopOnTimer_chans (c : Chan) (s : State) : (stopOnTimer c s).chans = s.chans.map fun r => if r.id = c then { r with onTimer := none } else r := rfl
@[simp] theorem stopOnTimer_pendQ (c : Chan) (s : State) : (stopOnTimer c s).pendQ = s.pendQ := rfl
@[simp] theorem stopOnTimer_ctxs (c : Chan) (s : State) : (stopOnTimer c s).ctxs = s.ctxs := rfl
@[simp] theorem stopOnTimer_window (c : Chan) (s : State) : (stopOnTimer c s).window = s.window := rfl
@[simp] theorem stopOnTimer_lastRefusal (c : Chan) (s : State) : (stopOnTimer c s).lastRefusal = s.lastRefusal := rfl
@[simp] theorem stopOnTimer_counts (c : Chan) (s : State) : (stopOnTimer c s).counts = s.counts := rfl
@[simp] theorem stopOnTimer_emit (c : Chan) (s : State) : (stopOnTimer c s).emit = s.emit := rfl
@[simp] theorem stopOnTimer_stages (c : Chan) (s : State) : (stopOnTimer c s).stages = s.stages := rfl
@[simp] theorem stopOnTimer_upQ (c : Chan) (s : State) : (stopOnTimer c s).upQ = s.upQ := rfl
@[simp] theorem stopOnTimer_utx (c : Chan) (s : State) : (stopOnTimer c s).utx = s.utx := rfl
@[simp] theorem stopOnTimer_tick (c : Chan) (s : State) : (stopOnTimer c s).tick = s.tick := rfl
@[simp] theorem stopOnTimer_zones (c : Chan) (s : State) : (stopOnTimer c s).zones = s.zones := rfl
@[simp] theorem stopOnTimer_handler (c : Chan) (s : State) : (stopOnTimer c s).handler = s.handler := rfl
@[simp] theorem stopOnTimer_log (c : Chan) (s : State) : (stopOnTimer c s).log = s.log := rfl
@[simp] theorem stopOnTimer_overflow (c : Chan) (s : State) : (stopOnTimer c s).overflow = s.overflow := rfl
@[simp] theorem stopOnTimer_rx (c : Chan) (s : State) : (stopOnTimer c s).rx = s.rx := rfl

/-! ## removeHold -/

@[simp] theorem removeHold_pending (k : HoldKind) (c : Chan) (s : State) : (removeHold k c s).pending = s.pending := rfl
@[simp] theorem removeHold_rstn (k : HoldKind) (c : Chan) (s : State) : (removeHold k c s).rstn = s.rstn := rfl
@[simp] theorem removeHold_supplyLow (k : HoldKind) (c : Chan) (s : State) : (removeHold k c s).supplyLow = s.supplyLow := rfl
@[simp] theorem removeHold_now (k : HoldKind) (c : Chan) (s : State) : (removeHold k c s).now = s.now := rfl
@[simp] theorem removeHold_eventNo (k : HoldKind) (c : Chan) (s : State) : (removeHold k c s).eventNo = s.eventNo := rfl
@[simp] theorem removeHold_mode (k : HoldKind) (c : Chan) (s : State) : (removeHold k c s).mode = s.mode := rfl
@[simp] theorem removeHold_causes (k : HoldKind) (c : Chan) (s : State) : (removeHold k c s).causes = s.causes := rfl
@[simp] theorem removeHold_startupHold (k : HoldKind) (c : Chan) (s : State) : (removeHold k c s).startupHold = s.startupHold := rfl
@[simp] theorem removeHold_shutdownFor (k : HoldKind) (c : Chan) (s : State) : (removeHold k c s).shutdownFor = s.shutdownFor := rfl
@[simp] theorem removeHold_staging (k : HoldKind) (c : Chan) (s : State) : (removeHold k c s).staging = s.staging := rfl
@[simp] theorem removeHold_active (k : HoldKind) (c : Chan) (s : State) : (removeHold k c s).active = s.active := rfl
@[simp] theorem removeHold_stagingSet (k : HoldKind) (c : Chan) (s : State) : (removeHold k c s).stagingSet = s.stagingSet := rfl
@[simp] theorem removeHold_activeSet (k : HoldKind) (c : Chan) (s : State) : (removeHold k c s).activeSet = s.activeSet := rfl
@[simp] theorem removeHold_committed (k : HoldKind) (c : Chan) (s : State) : (removeHold k c s).committed = s.committed := rfl
@[simp] theorem removeHold_chans (k : HoldKind) (c : Chan) (s : State) : (removeHold k c s).chans = s.chans.map fun r => if r.id = c then r.release k else r := rfl
@[simp] theorem removeHold_pendQ (k : HoldKind) (c : Chan) (s : State) : (removeHold k c s).pendQ = s.pendQ := rfl
@[simp] theorem removeHold_ctxs (k : HoldKind) (c : Chan) (s : State) : (removeHold k c s).ctxs = s.ctxs := rfl
@[simp] theorem removeHold_window (k : HoldKind) (c : Chan) (s : State) : (removeHold k c s).window = s.window := rfl
@[simp] theorem removeHold_lastRefusal (k : HoldKind) (c : Chan) (s : State) : (removeHold k c s).lastRefusal = s.lastRefusal := rfl
@[simp] theorem removeHold_counts (k : HoldKind) (c : Chan) (s : State) : (removeHold k c s).counts = s.counts := rfl
@[simp] theorem removeHold_emit (k : HoldKind) (c : Chan) (s : State) : (removeHold k c s).emit = s.emit := rfl
@[simp] theorem removeHold_stages (k : HoldKind) (c : Chan) (s : State) : (removeHold k c s).stages = s.stages := rfl
@[simp] theorem removeHold_upQ (k : HoldKind) (c : Chan) (s : State) : (removeHold k c s).upQ = s.upQ := rfl
@[simp] theorem removeHold_utx (k : HoldKind) (c : Chan) (s : State) : (removeHold k c s).utx = s.utx := rfl
@[simp] theorem removeHold_tick (k : HoldKind) (c : Chan) (s : State) : (removeHold k c s).tick = s.tick := rfl
@[simp] theorem removeHold_zones (k : HoldKind) (c : Chan) (s : State) : (removeHold k c s).zones = s.zones := rfl
@[simp] theorem removeHold_handler (k : HoldKind) (c : Chan) (s : State) : (removeHold k c s).handler = s.handler := rfl
@[simp] theorem removeHold_log (k : HoldKind) (c : Chan) (s : State) : (removeHold k c s).log = s.log := rfl
@[simp] theorem removeHold_overflow (k : HoldKind) (c : Chan) (s : State) : (removeHold k c s).overflow = s.overflow := rfl
@[simp] theorem removeHold_rx (k : HoldKind) (c : Chan) (s : State) : (removeHold k c s).rx = s.rx := rfl

/-! ## removePend -/

@[simp] theorem removePend_pending (c : Chan) (s : State) : (removePend c s).pending = s.pending := rfl
@[simp] theorem removePend_rstn (c : Chan) (s : State) : (removePend c s).rstn = s.rstn := rfl
@[simp] theorem removePend_supplyLow (c : Chan) (s : State) : (removePend c s).supplyLow = s.supplyLow := rfl
@[simp] theorem removePend_now (c : Chan) (s : State) : (removePend c s).now = s.now := rfl
@[simp] theorem removePend_eventNo (c : Chan) (s : State) : (removePend c s).eventNo = s.eventNo := rfl
@[simp] theorem removePend_mode (c : Chan) (s : State) : (removePend c s).mode = s.mode := rfl
@[simp] theorem removePend_causes (c : Chan) (s : State) : (removePend c s).causes = s.causes := rfl
@[simp] theorem removePend_startupHold (c : Chan) (s : State) : (removePend c s).startupHold = s.startupHold := rfl
@[simp] theorem removePend_shutdownFor (c : Chan) (s : State) : (removePend c s).shutdownFor = s.shutdownFor := rfl
@[simp] theorem removePend_staging (c : Chan) (s : State) : (removePend c s).staging = s.staging := rfl
@[simp] theorem removePend_active (c : Chan) (s : State) : (removePend c s).active = s.active := rfl
@[simp] theorem removePend_stagingSet (c : Chan) (s : State) : (removePend c s).stagingSet = s.stagingSet := rfl
@[simp] theorem removePend_activeSet (c : Chan) (s : State) : (removePend c s).activeSet = s.activeSet := rfl
@[simp] theorem removePend_committed (c : Chan) (s : State) : (removePend c s).committed = s.committed := rfl
@[simp] theorem removePend_chans (c : Chan) (s : State) : (removePend c s).chans = s.chans := rfl
@[simp] theorem removePend_pendQ (c : Chan) (s : State) : (removePend c s).pendQ = s.pendQ.filter fun e => e.chan != c := rfl
@[simp] theorem removePend_ctxs (c : Chan) (s : State) : (removePend c s).ctxs = s.ctxs := rfl
@[simp] theorem removePend_window (c : Chan) (s : State) : (removePend c s).window = s.window := rfl
@[simp] theorem removePend_lastRefusal (c : Chan) (s : State) : (removePend c s).lastRefusal = s.lastRefusal := rfl
@[simp] theorem removePend_counts (c : Chan) (s : State) : (removePend c s).counts = s.counts := rfl
@[simp] theorem removePend_emit (c : Chan) (s : State) : (removePend c s).emit = s.emit := rfl
@[simp] theorem removePend_stages (c : Chan) (s : State) : (removePend c s).stages = s.stages := rfl
@[simp] theorem removePend_upQ (c : Chan) (s : State) : (removePend c s).upQ = s.upQ := rfl
@[simp] theorem removePend_utx (c : Chan) (s : State) : (removePend c s).utx = s.utx := rfl
@[simp] theorem removePend_tick (c : Chan) (s : State) : (removePend c s).tick = s.tick := rfl
@[simp] theorem removePend_zones (c : Chan) (s : State) : (removePend c s).zones = s.zones := rfl
@[simp] theorem removePend_handler (c : Chan) (s : State) : (removePend c s).handler = s.handler := rfl
@[simp] theorem removePend_log (c : Chan) (s : State) : (removePend c s).log = s.log := rfl
@[simp] theorem removePend_overflow (c : Chan) (s : State) : (removePend c s).overflow = s.overflow := rfl
@[simp] theorem removePend_rx (c : Chan) (s : State) : (removePend c s).rx = s.rx := rfl

/-! ## fileDated -/

@[simp] theorem fileDated_pending (c : Chan) (r : Reason) (due : Time) (seq : Byte) (s : State) : (fileDated c r due seq s).pending = s.pending := rfl
@[simp] theorem fileDated_rstn (c : Chan) (r : Reason) (due : Time) (seq : Byte) (s : State) : (fileDated c r due seq s).rstn = s.rstn := rfl
@[simp] theorem fileDated_supplyLow (c : Chan) (r : Reason) (due : Time) (seq : Byte) (s : State) : (fileDated c r due seq s).supplyLow = s.supplyLow := rfl
@[simp] theorem fileDated_now (c : Chan) (r : Reason) (due : Time) (seq : Byte) (s : State) : (fileDated c r due seq s).now = s.now := rfl
@[simp] theorem fileDated_eventNo (c : Chan) (r : Reason) (due : Time) (seq : Byte) (s : State) : (fileDated c r due seq s).eventNo = s.eventNo := rfl
@[simp] theorem fileDated_mode (c : Chan) (r : Reason) (due : Time) (seq : Byte) (s : State) : (fileDated c r due seq s).mode = s.mode := rfl
@[simp] theorem fileDated_causes (c : Chan) (r : Reason) (due : Time) (seq : Byte) (s : State) : (fileDated c r due seq s).causes = s.causes := rfl
@[simp] theorem fileDated_startupHold (c : Chan) (r : Reason) (due : Time) (seq : Byte) (s : State) : (fileDated c r due seq s).startupHold = s.startupHold := rfl
@[simp] theorem fileDated_shutdownFor (c : Chan) (r : Reason) (due : Time) (seq : Byte) (s : State) : (fileDated c r due seq s).shutdownFor = s.shutdownFor := rfl
@[simp] theorem fileDated_staging (c : Chan) (r : Reason) (due : Time) (seq : Byte) (s : State) : (fileDated c r due seq s).staging = s.staging := rfl
@[simp] theorem fileDated_active (c : Chan) (r : Reason) (due : Time) (seq : Byte) (s : State) : (fileDated c r due seq s).active = s.active := rfl
@[simp] theorem fileDated_stagingSet (c : Chan) (r : Reason) (due : Time) (seq : Byte) (s : State) : (fileDated c r due seq s).stagingSet = s.stagingSet := rfl
@[simp] theorem fileDated_activeSet (c : Chan) (r : Reason) (due : Time) (seq : Byte) (s : State) : (fileDated c r due seq s).activeSet = s.activeSet := rfl
@[simp] theorem fileDated_committed (c : Chan) (r : Reason) (due : Time) (seq : Byte) (s : State) : (fileDated c r due seq s).committed = s.committed := rfl
@[simp] theorem fileDated_chans (c : Chan) (r : Reason) (due : Time) (seq : Byte) (s : State) : (fileDated c r due seq s).chans = s.chans := rfl
@[simp] theorem fileDated_pendQ (c : Chan) (r : Reason) (due : Time) (seq : Byte) (s : State) : (fileDated c r due seq s).pendQ = insertDated ⟨c, r, some due, s.eventNo, seq⟩ due s.pendQ := rfl
@[simp] theorem fileDated_ctxs (c : Chan) (r : Reason) (due : Time) (seq : Byte) (s : State) : (fileDated c r due seq s).ctxs = s.ctxs := rfl
@[simp] theorem fileDated_window (c : Chan) (r : Reason) (due : Time) (seq : Byte) (s : State) : (fileDated c r due seq s).window = s.window := rfl
@[simp] theorem fileDated_lastRefusal (c : Chan) (r : Reason) (due : Time) (seq : Byte) (s : State) : (fileDated c r due seq s).lastRefusal = s.lastRefusal := rfl
@[simp] theorem fileDated_counts (c : Chan) (r : Reason) (due : Time) (seq : Byte) (s : State) : (fileDated c r due seq s).counts = s.counts := rfl
@[simp] theorem fileDated_emit (c : Chan) (r : Reason) (due : Time) (seq : Byte) (s : State) : (fileDated c r due seq s).emit = s.emit := rfl
@[simp] theorem fileDated_stages (c : Chan) (r : Reason) (due : Time) (seq : Byte) (s : State) : (fileDated c r due seq s).stages = s.stages := rfl
@[simp] theorem fileDated_upQ (c : Chan) (r : Reason) (due : Time) (seq : Byte) (s : State) : (fileDated c r due seq s).upQ = s.upQ := rfl
@[simp] theorem fileDated_utx (c : Chan) (r : Reason) (due : Time) (seq : Byte) (s : State) : (fileDated c r due seq s).utx = s.utx := rfl
@[simp] theorem fileDated_tick (c : Chan) (r : Reason) (due : Time) (seq : Byte) (s : State) : (fileDated c r due seq s).tick = s.tick := rfl
@[simp] theorem fileDated_zones (c : Chan) (r : Reason) (due : Time) (seq : Byte) (s : State) : (fileDated c r due seq s).zones = s.zones := rfl
@[simp] theorem fileDated_handler (c : Chan) (r : Reason) (due : Time) (seq : Byte) (s : State) : (fileDated c r due seq s).handler = s.handler := rfl
@[simp] theorem fileDated_log (c : Chan) (r : Reason) (due : Time) (seq : Byte) (s : State) : (fileDated c r due seq s).log = s.log := rfl
@[simp] theorem fileDated_overflow (c : Chan) (r : Reason) (due : Time) (seq : Byte) (s : State) : (fileDated c r due seq s).overflow = s.overflow := rfl
@[simp] theorem fileDated_rx (c : Chan) (r : Reason) (due : Time) (seq : Byte) (s : State) : (fileDated c r due seq s).rx = s.rx := rfl

/-! ## fileUndated -/

@[simp] theorem fileUndated_pending (c : Chan) (r : Reason) (seq : Byte) (s : State) : (fileUndated c r seq s).pending = s.pending := rfl
@[simp] theorem fileUndated_rstn (c : Chan) (r : Reason) (seq : Byte) (s : State) : (fileUndated c r seq s).rstn = s.rstn := rfl
@[simp] theorem fileUndated_supplyLow (c : Chan) (r : Reason) (seq : Byte) (s : State) : (fileUndated c r seq s).supplyLow = s.supplyLow := rfl
@[simp] theorem fileUndated_now (c : Chan) (r : Reason) (seq : Byte) (s : State) : (fileUndated c r seq s).now = s.now := rfl
@[simp] theorem fileUndated_eventNo (c : Chan) (r : Reason) (seq : Byte) (s : State) : (fileUndated c r seq s).eventNo = s.eventNo := rfl
@[simp] theorem fileUndated_mode (c : Chan) (r : Reason) (seq : Byte) (s : State) : (fileUndated c r seq s).mode = s.mode := rfl
@[simp] theorem fileUndated_causes (c : Chan) (r : Reason) (seq : Byte) (s : State) : (fileUndated c r seq s).causes = s.causes := rfl
@[simp] theorem fileUndated_startupHold (c : Chan) (r : Reason) (seq : Byte) (s : State) : (fileUndated c r seq s).startupHold = s.startupHold := rfl
@[simp] theorem fileUndated_shutdownFor (c : Chan) (r : Reason) (seq : Byte) (s : State) : (fileUndated c r seq s).shutdownFor = s.shutdownFor := rfl
@[simp] theorem fileUndated_staging (c : Chan) (r : Reason) (seq : Byte) (s : State) : (fileUndated c r seq s).staging = s.staging := rfl
@[simp] theorem fileUndated_active (c : Chan) (r : Reason) (seq : Byte) (s : State) : (fileUndated c r seq s).active = s.active := rfl
@[simp] theorem fileUndated_stagingSet (c : Chan) (r : Reason) (seq : Byte) (s : State) : (fileUndated c r seq s).stagingSet = s.stagingSet := rfl
@[simp] theorem fileUndated_activeSet (c : Chan) (r : Reason) (seq : Byte) (s : State) : (fileUndated c r seq s).activeSet = s.activeSet := rfl
@[simp] theorem fileUndated_committed (c : Chan) (r : Reason) (seq : Byte) (s : State) : (fileUndated c r seq s).committed = s.committed := rfl
@[simp] theorem fileUndated_chans (c : Chan) (r : Reason) (seq : Byte) (s : State) : (fileUndated c r seq s).chans = s.chans := rfl
@[simp] theorem fileUndated_pendQ (c : Chan) (r : Reason) (seq : Byte) (s : State) : (fileUndated c r seq s).pendQ = s.pendQ ++ [⟨c, r, none, 0, seq⟩] := rfl
@[simp] theorem fileUndated_ctxs (c : Chan) (r : Reason) (seq : Byte) (s : State) : (fileUndated c r seq s).ctxs = s.ctxs := rfl
@[simp] theorem fileUndated_window (c : Chan) (r : Reason) (seq : Byte) (s : State) : (fileUndated c r seq s).window = s.window := rfl
@[simp] theorem fileUndated_lastRefusal (c : Chan) (r : Reason) (seq : Byte) (s : State) : (fileUndated c r seq s).lastRefusal = s.lastRefusal := rfl
@[simp] theorem fileUndated_counts (c : Chan) (r : Reason) (seq : Byte) (s : State) : (fileUndated c r seq s).counts = s.counts := rfl
@[simp] theorem fileUndated_emit (c : Chan) (r : Reason) (seq : Byte) (s : State) : (fileUndated c r seq s).emit = s.emit := rfl
@[simp] theorem fileUndated_stages (c : Chan) (r : Reason) (seq : Byte) (s : State) : (fileUndated c r seq s).stages = s.stages := rfl
@[simp] theorem fileUndated_upQ (c : Chan) (r : Reason) (seq : Byte) (s : State) : (fileUndated c r seq s).upQ = s.upQ := rfl
@[simp] theorem fileUndated_utx (c : Chan) (r : Reason) (seq : Byte) (s : State) : (fileUndated c r seq s).utx = s.utx := rfl
@[simp] theorem fileUndated_tick (c : Chan) (r : Reason) (seq : Byte) (s : State) : (fileUndated c r seq s).tick = s.tick := rfl
@[simp] theorem fileUndated_zones (c : Chan) (r : Reason) (seq : Byte) (s : State) : (fileUndated c r seq s).zones = s.zones := rfl
@[simp] theorem fileUndated_handler (c : Chan) (r : Reason) (seq : Byte) (s : State) : (fileUndated c r seq s).handler = s.handler := rfl
@[simp] theorem fileUndated_log (c : Chan) (r : Reason) (seq : Byte) (s : State) : (fileUndated c r seq s).log = s.log := rfl
@[simp] theorem fileUndated_overflow (c : Chan) (r : Reason) (seq : Byte) (s : State) : (fileUndated c r seq s).overflow = s.overflow := rfl
@[simp] theorem fileUndated_rx (c : Chan) (r : Reason) (seq : Byte) (s : State) : (fileUndated c r seq s).rx = s.rx := rfl

/-! ## closeCtxOf -/

@[simp] theorem closeCtxOf_pending (c : Chan) (s : State) : (closeCtxOf c s).pending = s.pending := rfl
@[simp] theorem closeCtxOf_rstn (c : Chan) (s : State) : (closeCtxOf c s).rstn = s.rstn := rfl
@[simp] theorem closeCtxOf_supplyLow (c : Chan) (s : State) : (closeCtxOf c s).supplyLow = s.supplyLow := rfl
@[simp] theorem closeCtxOf_now (c : Chan) (s : State) : (closeCtxOf c s).now = s.now := rfl
@[simp] theorem closeCtxOf_eventNo (c : Chan) (s : State) : (closeCtxOf c s).eventNo = s.eventNo := rfl
@[simp] theorem closeCtxOf_mode (c : Chan) (s : State) : (closeCtxOf c s).mode = s.mode := rfl
@[simp] theorem closeCtxOf_causes (c : Chan) (s : State) : (closeCtxOf c s).causes = s.causes := rfl
@[simp] theorem closeCtxOf_startupHold (c : Chan) (s : State) : (closeCtxOf c s).startupHold = s.startupHold := rfl
@[simp] theorem closeCtxOf_shutdownFor (c : Chan) (s : State) : (closeCtxOf c s).shutdownFor = s.shutdownFor := rfl
@[simp] theorem closeCtxOf_staging (c : Chan) (s : State) : (closeCtxOf c s).staging = s.staging := rfl
@[simp] theorem closeCtxOf_active (c : Chan) (s : State) : (closeCtxOf c s).active = s.active := rfl
@[simp] theorem closeCtxOf_stagingSet (c : Chan) (s : State) : (closeCtxOf c s).stagingSet = s.stagingSet := rfl
@[simp] theorem closeCtxOf_activeSet (c : Chan) (s : State) : (closeCtxOf c s).activeSet = s.activeSet := rfl
@[simp] theorem closeCtxOf_committed (c : Chan) (s : State) : (closeCtxOf c s).committed = s.committed := rfl
@[simp] theorem closeCtxOf_chans (c : Chan) (s : State) : (closeCtxOf c s).chans = s.chans := rfl
@[simp] theorem closeCtxOf_pendQ (c : Chan) (s : State) : (closeCtxOf c s).pendQ = s.pendQ := rfl
@[simp] theorem closeCtxOf_ctxs (c : Chan) (s : State) : (closeCtxOf c s).ctxs = s.ctxs.filter fun x => x.target != c && x.donor != c := rfl
@[simp] theorem closeCtxOf_window (c : Chan) (s : State) : (closeCtxOf c s).window = s.window := rfl
@[simp] theorem closeCtxOf_lastRefusal (c : Chan) (s : State) : (closeCtxOf c s).lastRefusal = s.lastRefusal := rfl
@[simp] theorem closeCtxOf_counts (c : Chan) (s : State) : (closeCtxOf c s).counts = s.counts := rfl
@[simp] theorem closeCtxOf_emit (c : Chan) (s : State) : (closeCtxOf c s).emit = s.emit := rfl
@[simp] theorem closeCtxOf_stages (c : Chan) (s : State) : (closeCtxOf c s).stages = s.stages := rfl
@[simp] theorem closeCtxOf_upQ (c : Chan) (s : State) : (closeCtxOf c s).upQ = s.upQ := rfl
@[simp] theorem closeCtxOf_utx (c : Chan) (s : State) : (closeCtxOf c s).utx = s.utx := rfl
@[simp] theorem closeCtxOf_tick (c : Chan) (s : State) : (closeCtxOf c s).tick = s.tick := rfl
@[simp] theorem closeCtxOf_zones (c : Chan) (s : State) : (closeCtxOf c s).zones = s.zones := rfl
@[simp] theorem closeCtxOf_handler (c : Chan) (s : State) : (closeCtxOf c s).handler = s.handler := rfl
@[simp] theorem closeCtxOf_log (c : Chan) (s : State) : (closeCtxOf c s).log = s.log := rfl
@[simp] theorem closeCtxOf_overflow (c : Chan) (s : State) : (closeCtxOf c s).overflow = s.overflow := rfl
@[simp] theorem closeCtxOf_rx (c : Chan) (s : State) : (closeCtxOf c s).rx = s.rx := rfl

/-! ## closeCtx -/

@[simp] theorem closeCtx_pending (c : Chan) (s : State) : (closeCtx c s).pending = s.pending := rfl
@[simp] theorem closeCtx_rstn (c : Chan) (s : State) : (closeCtx c s).rstn = s.rstn := rfl
@[simp] theorem closeCtx_supplyLow (c : Chan) (s : State) : (closeCtx c s).supplyLow = s.supplyLow := rfl
@[simp] theorem closeCtx_now (c : Chan) (s : State) : (closeCtx c s).now = s.now := rfl
@[simp] theorem closeCtx_eventNo (c : Chan) (s : State) : (closeCtx c s).eventNo = s.eventNo := rfl
@[simp] theorem closeCtx_mode (c : Chan) (s : State) : (closeCtx c s).mode = s.mode := rfl
@[simp] theorem closeCtx_causes (c : Chan) (s : State) : (closeCtx c s).causes = s.causes := rfl
@[simp] theorem closeCtx_startupHold (c : Chan) (s : State) : (closeCtx c s).startupHold = s.startupHold := rfl
@[simp] theorem closeCtx_shutdownFor (c : Chan) (s : State) : (closeCtx c s).shutdownFor = s.shutdownFor := rfl
@[simp] theorem closeCtx_staging (c : Chan) (s : State) : (closeCtx c s).staging = s.staging := rfl
@[simp] theorem closeCtx_active (c : Chan) (s : State) : (closeCtx c s).active = s.active := rfl
@[simp] theorem closeCtx_stagingSet (c : Chan) (s : State) : (closeCtx c s).stagingSet = s.stagingSet := rfl
@[simp] theorem closeCtx_activeSet (c : Chan) (s : State) : (closeCtx c s).activeSet = s.activeSet := rfl
@[simp] theorem closeCtx_committed (c : Chan) (s : State) : (closeCtx c s).committed = s.committed := rfl
@[simp] theorem closeCtx_chans (c : Chan) (s : State) : (closeCtx c s).chans = s.chans := rfl
@[simp] theorem closeCtx_pendQ (c : Chan) (s : State) : (closeCtx c s).pendQ = s.pendQ := rfl
@[simp] theorem closeCtx_ctxs (c : Chan) (s : State) : (closeCtx c s).ctxs = s.ctxs.filter fun x => x.target != c := rfl
@[simp] theorem closeCtx_window (c : Chan) (s : State) : (closeCtx c s).window = s.window := rfl
@[simp] theorem closeCtx_lastRefusal (c : Chan) (s : State) : (closeCtx c s).lastRefusal = s.lastRefusal := rfl
@[simp] theorem closeCtx_counts (c : Chan) (s : State) : (closeCtx c s).counts = s.counts := rfl
@[simp] theorem closeCtx_emit (c : Chan) (s : State) : (closeCtx c s).emit = s.emit := rfl
@[simp] theorem closeCtx_stages (c : Chan) (s : State) : (closeCtx c s).stages = s.stages := rfl
@[simp] theorem closeCtx_upQ (c : Chan) (s : State) : (closeCtx c s).upQ = s.upQ := rfl
@[simp] theorem closeCtx_utx (c : Chan) (s : State) : (closeCtx c s).utx = s.utx := rfl
@[simp] theorem closeCtx_tick (c : Chan) (s : State) : (closeCtx c s).tick = s.tick := rfl
@[simp] theorem closeCtx_zones (c : Chan) (s : State) : (closeCtx c s).zones = s.zones := rfl
@[simp] theorem closeCtx_handler (c : Chan) (s : State) : (closeCtx c s).handler = s.handler := rfl
@[simp] theorem closeCtx_log (c : Chan) (s : State) : (closeCtx c s).log = s.log := rfl
@[simp] theorem closeCtx_overflow (c : Chan) (s : State) : (closeCtx c s).overflow = s.overflow := rfl
@[simp] theorem closeCtx_rx (c : Chan) (s : State) : (closeCtx c s).rx = s.rx := rfl

/-! ## modCtx -/

@[simp] theorem modCtx_pending (c : Chan) (f : Ctx → Ctx) (s : State) : (modCtx c f s).pending = s.pending := rfl
@[simp] theorem modCtx_rstn (c : Chan) (f : Ctx → Ctx) (s : State) : (modCtx c f s).rstn = s.rstn := rfl
@[simp] theorem modCtx_supplyLow (c : Chan) (f : Ctx → Ctx) (s : State) : (modCtx c f s).supplyLow = s.supplyLow := rfl
@[simp] theorem modCtx_now (c : Chan) (f : Ctx → Ctx) (s : State) : (modCtx c f s).now = s.now := rfl
@[simp] theorem modCtx_eventNo (c : Chan) (f : Ctx → Ctx) (s : State) : (modCtx c f s).eventNo = s.eventNo := rfl
@[simp] theorem modCtx_mode (c : Chan) (f : Ctx → Ctx) (s : State) : (modCtx c f s).mode = s.mode := rfl
@[simp] theorem modCtx_causes (c : Chan) (f : Ctx → Ctx) (s : State) : (modCtx c f s).causes = s.causes := rfl
@[simp] theorem modCtx_startupHold (c : Chan) (f : Ctx → Ctx) (s : State) : (modCtx c f s).startupHold = s.startupHold := rfl
@[simp] theorem modCtx_shutdownFor (c : Chan) (f : Ctx → Ctx) (s : State) : (modCtx c f s).shutdownFor = s.shutdownFor := rfl
@[simp] theorem modCtx_staging (c : Chan) (f : Ctx → Ctx) (s : State) : (modCtx c f s).staging = s.staging := rfl
@[simp] theorem modCtx_active (c : Chan) (f : Ctx → Ctx) (s : State) : (modCtx c f s).active = s.active := rfl
@[simp] theorem modCtx_stagingSet (c : Chan) (f : Ctx → Ctx) (s : State) : (modCtx c f s).stagingSet = s.stagingSet := rfl
@[simp] theorem modCtx_activeSet (c : Chan) (f : Ctx → Ctx) (s : State) : (modCtx c f s).activeSet = s.activeSet := rfl
@[simp] theorem modCtx_committed (c : Chan) (f : Ctx → Ctx) (s : State) : (modCtx c f s).committed = s.committed := rfl
@[simp] theorem modCtx_chans (c : Chan) (f : Ctx → Ctx) (s : State) : (modCtx c f s).chans = s.chans := rfl
@[simp] theorem modCtx_pendQ (c : Chan) (f : Ctx → Ctx) (s : State) : (modCtx c f s).pendQ = s.pendQ := rfl
@[simp] theorem modCtx_ctxs (c : Chan) (f : Ctx → Ctx) (s : State) : (modCtx c f s).ctxs = s.ctxs.map fun x => if x.target = c then f x else x := rfl
@[simp] theorem modCtx_window (c : Chan) (f : Ctx → Ctx) (s : State) : (modCtx c f s).window = s.window := rfl
@[simp] theorem modCtx_lastRefusal (c : Chan) (f : Ctx → Ctx) (s : State) : (modCtx c f s).lastRefusal = s.lastRefusal := rfl
@[simp] theorem modCtx_counts (c : Chan) (f : Ctx → Ctx) (s : State) : (modCtx c f s).counts = s.counts := rfl
@[simp] theorem modCtx_emit (c : Chan) (f : Ctx → Ctx) (s : State) : (modCtx c f s).emit = s.emit := rfl
@[simp] theorem modCtx_stages (c : Chan) (f : Ctx → Ctx) (s : State) : (modCtx c f s).stages = s.stages := rfl
@[simp] theorem modCtx_upQ (c : Chan) (f : Ctx → Ctx) (s : State) : (modCtx c f s).upQ = s.upQ := rfl
@[simp] theorem modCtx_utx (c : Chan) (f : Ctx → Ctx) (s : State) : (modCtx c f s).utx = s.utx := rfl
@[simp] theorem modCtx_tick (c : Chan) (f : Ctx → Ctx) (s : State) : (modCtx c f s).tick = s.tick := rfl
@[simp] theorem modCtx_zones (c : Chan) (f : Ctx → Ctx) (s : State) : (modCtx c f s).zones = s.zones := rfl
@[simp] theorem modCtx_handler (c : Chan) (f : Ctx → Ctx) (s : State) : (modCtx c f s).handler = s.handler := rfl
@[simp] theorem modCtx_log (c : Chan) (f : Ctx → Ctx) (s : State) : (modCtx c f s).log = s.log := rfl
@[simp] theorem modCtx_overflow (c : Chan) (f : Ctx → Ctx) (s : State) : (modCtx c f s).overflow = s.overflow := rfl
@[simp] theorem modCtx_rx (c : Chan) (f : Ctx → Ctx) (s : State) : (modCtx c f s).rx = s.rx := rfl

/-! ## place -/

@[simp] theorem place_pending (c : Chan) (v : Level) (k : EmitClass) (s : State) : (place c v k s).pending = s.pending := rfl
@[simp] theorem place_rstn (c : Chan) (v : Level) (k : EmitClass) (s : State) : (place c v k s).rstn = s.rstn := rfl
@[simp] theorem place_supplyLow (c : Chan) (v : Level) (k : EmitClass) (s : State) : (place c v k s).supplyLow = s.supplyLow := rfl
@[simp] theorem place_now (c : Chan) (v : Level) (k : EmitClass) (s : State) : (place c v k s).now = s.now := rfl
@[simp] theorem place_eventNo (c : Chan) (v : Level) (k : EmitClass) (s : State) : (place c v k s).eventNo = s.eventNo := rfl
@[simp] theorem place_mode (c : Chan) (v : Level) (k : EmitClass) (s : State) : (place c v k s).mode = s.mode := rfl
@[simp] theorem place_causes (c : Chan) (v : Level) (k : EmitClass) (s : State) : (place c v k s).causes = s.causes := rfl
@[simp] theorem place_startupHold (c : Chan) (v : Level) (k : EmitClass) (s : State) : (place c v k s).startupHold = s.startupHold := rfl
@[simp] theorem place_shutdownFor (c : Chan) (v : Level) (k : EmitClass) (s : State) : (place c v k s).shutdownFor = s.shutdownFor := rfl
@[simp] theorem place_staging (c : Chan) (v : Level) (k : EmitClass) (s : State) : (place c v k s).staging = s.staging := rfl
@[simp] theorem place_active (c : Chan) (v : Level) (k : EmitClass) (s : State) : (place c v k s).active = s.active := rfl
@[simp] theorem place_stagingSet (c : Chan) (v : Level) (k : EmitClass) (s : State) : (place c v k s).stagingSet = s.stagingSet := rfl
@[simp] theorem place_activeSet (c : Chan) (v : Level) (k : EmitClass) (s : State) : (place c v k s).activeSet = s.activeSet := rfl
@[simp] theorem place_committed (c : Chan) (v : Level) (k : EmitClass) (s : State) : (place c v k s).committed = s.committed := rfl
@[simp] theorem place_chans (c : Chan) (v : Level) (k : EmitClass) (s : State) : (place c v k s).chans = s.chans := rfl
@[simp] theorem place_pendQ (c : Chan) (v : Level) (k : EmitClass) (s : State) : (place c v k s).pendQ = s.pendQ := rfl
@[simp] theorem place_ctxs (c : Chan) (v : Level) (k : EmitClass) (s : State) : (place c v k s).ctxs = s.ctxs := rfl
@[simp] theorem place_window (c : Chan) (v : Level) (k : EmitClass) (s : State) : (place c v k s).window = s.window := rfl
@[simp] theorem place_lastRefusal (c : Chan) (v : Level) (k : EmitClass) (s : State) : (place c v k s).lastRefusal = s.lastRefusal := rfl
@[simp] theorem place_counts (c : Chan) (v : Level) (k : EmitClass) (s : State) : (place c v k s).counts = s.counts := rfl
@[simp] theorem place_emit (c : Chan) (v : Level) (k : EmitClass) (s : State) : (place c v k s).emit = s.emit.place s.now c v k := rfl
@[simp] theorem place_stages (c : Chan) (v : Level) (k : EmitClass) (s : State) : (place c v k s).stages = s.stages := rfl
@[simp] theorem place_upQ (c : Chan) (v : Level) (k : EmitClass) (s : State) : (place c v k s).upQ = s.upQ := rfl
@[simp] theorem place_utx (c : Chan) (v : Level) (k : EmitClass) (s : State) : (place c v k s).utx = s.utx := rfl
@[simp] theorem place_tick (c : Chan) (v : Level) (k : EmitClass) (s : State) : (place c v k s).tick = s.tick := rfl
@[simp] theorem place_zones (c : Chan) (v : Level) (k : EmitClass) (s : State) : (place c v k s).zones = s.zones := rfl
@[simp] theorem place_handler (c : Chan) (v : Level) (k : EmitClass) (s : State) : (place c v k s).handler = s.handler := rfl
@[simp] theorem place_log (c : Chan) (v : Level) (k : EmitClass) (s : State) : (place c v k s).log = s.log := rfl
@[simp] theorem place_overflow (c : Chan) (v : Level) (k : EmitClass) (s : State) : (place c v k s).overflow = s.overflow := rfl
@[simp] theorem place_rx (c : Chan) (v : Level) (k : EmitClass) (s : State) : (place c v k s).rx = s.rx := rfl

/-! ## quenchAll -/

@[simp] theorem quenchAll_pending (s : State) : (quenchAll s).pending = s.pending := rfl
@[simp] theorem quenchAll_rstn (s : State) : (quenchAll s).rstn = s.rstn := rfl
@[simp] theorem quenchAll_supplyLow (s : State) : (quenchAll s).supplyLow = s.supplyLow := rfl
@[simp] theorem quenchAll_now (s : State) : (quenchAll s).now = s.now := rfl
@[simp] theorem quenchAll_eventNo (s : State) : (quenchAll s).eventNo = s.eventNo := rfl
@[simp] theorem quenchAll_mode (s : State) : (quenchAll s).mode = s.mode := rfl
@[simp] theorem quenchAll_causes (s : State) : (quenchAll s).causes = s.causes := rfl
@[simp] theorem quenchAll_startupHold (s : State) : (quenchAll s).startupHold = s.startupHold := rfl
@[simp] theorem quenchAll_shutdownFor (s : State) : (quenchAll s).shutdownFor = s.shutdownFor := rfl
@[simp] theorem quenchAll_staging (s : State) : (quenchAll s).staging = s.staging := rfl
@[simp] theorem quenchAll_active (s : State) : (quenchAll s).active = s.active := rfl
@[simp] theorem quenchAll_stagingSet (s : State) : (quenchAll s).stagingSet = s.stagingSet := rfl
@[simp] theorem quenchAll_activeSet (s : State) : (quenchAll s).activeSet = s.activeSet := rfl
@[simp] theorem quenchAll_committed (s : State) : (quenchAll s).committed = s.committed := rfl
@[simp] theorem quenchAll_chans (s : State) : (quenchAll s).chans = s.chans := rfl
@[simp] theorem quenchAll_pendQ (s : State) : (quenchAll s).pendQ = s.pendQ := rfl
@[simp] theorem quenchAll_ctxs (s : State) : (quenchAll s).ctxs = s.ctxs := rfl
@[simp] theorem quenchAll_window (s : State) : (quenchAll s).window = s.window := rfl
@[simp] theorem quenchAll_lastRefusal (s : State) : (quenchAll s).lastRefusal = s.lastRefusal := rfl
@[simp] theorem quenchAll_counts (s : State) : (quenchAll s).counts = s.counts := rfl
@[simp] theorem quenchAll_emit (s : State) : (quenchAll s).emit = Config.allStages.foldl (fun q st => q.quenchStage s.now st) s.emit := rfl
@[simp] theorem quenchAll_stages (s : State) : (quenchAll s).stages = s.stages := rfl
@[simp] theorem quenchAll_upQ (s : State) : (quenchAll s).upQ = s.upQ := rfl
@[simp] theorem quenchAll_utx (s : State) : (quenchAll s).utx = s.utx := rfl
@[simp] theorem quenchAll_tick (s : State) : (quenchAll s).tick = s.tick := rfl
@[simp] theorem quenchAll_zones (s : State) : (quenchAll s).zones = s.zones := rfl
@[simp] theorem quenchAll_handler (s : State) : (quenchAll s).handler = s.handler := rfl
@[simp] theorem quenchAll_log (s : State) : (quenchAll s).log = s.log := rfl
@[simp] theorem quenchAll_overflow (s : State) : (quenchAll s).overflow = s.overflow := rfl
@[simp] theorem quenchAll_rx (s : State) : (quenchAll s).rx = s.rx := rfl

/-! ## pushUp -/

@[simp] theorem pushUp_pending (f : Frame) (s : State) : (pushUp f s).pending = s.pending := rfl
@[simp] theorem pushUp_rstn (f : Frame) (s : State) : (pushUp f s).rstn = s.rstn := rfl
@[simp] theorem pushUp_supplyLow (f : Frame) (s : State) : (pushUp f s).supplyLow = s.supplyLow := rfl
@[simp] theorem pushUp_now (f : Frame) (s : State) : (pushUp f s).now = s.now := rfl
@[simp] theorem pushUp_eventNo (f : Frame) (s : State) : (pushUp f s).eventNo = s.eventNo := rfl
@[simp] theorem pushUp_mode (f : Frame) (s : State) : (pushUp f s).mode = s.mode := rfl
@[simp] theorem pushUp_causes (f : Frame) (s : State) : (pushUp f s).causes = s.causes := rfl
@[simp] theorem pushUp_startupHold (f : Frame) (s : State) : (pushUp f s).startupHold = s.startupHold := rfl
@[simp] theorem pushUp_shutdownFor (f : Frame) (s : State) : (pushUp f s).shutdownFor = s.shutdownFor := rfl
@[simp] theorem pushUp_staging (f : Frame) (s : State) : (pushUp f s).staging = s.staging := rfl
@[simp] theorem pushUp_active (f : Frame) (s : State) : (pushUp f s).active = s.active := rfl
@[simp] theorem pushUp_stagingSet (f : Frame) (s : State) : (pushUp f s).stagingSet = s.stagingSet := rfl
@[simp] theorem pushUp_activeSet (f : Frame) (s : State) : (pushUp f s).activeSet = s.activeSet := rfl
@[simp] theorem pushUp_committed (f : Frame) (s : State) : (pushUp f s).committed = s.committed := rfl
@[simp] theorem pushUp_chans (f : Frame) (s : State) : (pushUp f s).chans = s.chans := rfl
@[simp] theorem pushUp_pendQ (f : Frame) (s : State) : (pushUp f s).pendQ = s.pendQ := rfl
@[simp] theorem pushUp_ctxs (f : Frame) (s : State) : (pushUp f s).ctxs = s.ctxs := rfl
@[simp] theorem pushUp_window (f : Frame) (s : State) : (pushUp f s).window = s.window := rfl
@[simp] theorem pushUp_lastRefusal (f : Frame) (s : State) : (pushUp f s).lastRefusal = s.lastRefusal := rfl
@[simp] theorem pushUp_counts (f : Frame) (s : State) : (pushUp f s).counts = s.counts := rfl
@[simp] theorem pushUp_emit (f : Frame) (s : State) : (pushUp f s).emit = s.emit := rfl
@[simp] theorem pushUp_stages (f : Frame) (s : State) : (pushUp f s).stages = s.stages := rfl
@[simp] theorem pushUp_upQ (f : Frame) (s : State) : (pushUp f s).upQ = s.upQ ++ [f] := rfl
@[simp] theorem pushUp_utx (f : Frame) (s : State) : (pushUp f s).utx = s.utx := rfl
@[simp] theorem pushUp_tick (f : Frame) (s : State) : (pushUp f s).tick = s.tick := rfl
@[simp] theorem pushUp_zones (f : Frame) (s : State) : (pushUp f s).zones = s.zones := rfl
@[simp] theorem pushUp_handler (f : Frame) (s : State) : (pushUp f s).handler = s.handler := rfl
@[simp] theorem pushUp_log (f : Frame) (s : State) : (pushUp f s).log = s.log := rfl
@[simp] theorem pushUp_overflow (f : Frame) (s : State) : (pushUp f s).overflow = s.overflow := rfl
@[simp] theorem pushUp_rx (f : Frame) (s : State) : (pushUp f s).rx = s.rx := rfl

/-! ## writeRefusal -/

@[simp] theorem writeRefusal_pending (c : Chan) (q : Byte) (r : RefusalReason) (s : State) : (writeRefusal c q r s).pending = s.pending := rfl
@[simp] theorem writeRefusal_rstn (c : Chan) (q : Byte) (r : RefusalReason) (s : State) : (writeRefusal c q r s).rstn = s.rstn := rfl
@[simp] theorem writeRefusal_supplyLow (c : Chan) (q : Byte) (r : RefusalReason) (s : State) : (writeRefusal c q r s).supplyLow = s.supplyLow := rfl
@[simp] theorem writeRefusal_now (c : Chan) (q : Byte) (r : RefusalReason) (s : State) : (writeRefusal c q r s).now = s.now := rfl
@[simp] theorem writeRefusal_eventNo (c : Chan) (q : Byte) (r : RefusalReason) (s : State) : (writeRefusal c q r s).eventNo = s.eventNo := rfl
@[simp] theorem writeRefusal_mode (c : Chan) (q : Byte) (r : RefusalReason) (s : State) : (writeRefusal c q r s).mode = s.mode := rfl
@[simp] theorem writeRefusal_causes (c : Chan) (q : Byte) (r : RefusalReason) (s : State) : (writeRefusal c q r s).causes = s.causes := rfl
@[simp] theorem writeRefusal_startupHold (c : Chan) (q : Byte) (r : RefusalReason) (s : State) : (writeRefusal c q r s).startupHold = s.startupHold := rfl
@[simp] theorem writeRefusal_shutdownFor (c : Chan) (q : Byte) (r : RefusalReason) (s : State) : (writeRefusal c q r s).shutdownFor = s.shutdownFor := rfl
@[simp] theorem writeRefusal_staging (c : Chan) (q : Byte) (r : RefusalReason) (s : State) : (writeRefusal c q r s).staging = s.staging := rfl
@[simp] theorem writeRefusal_active (c : Chan) (q : Byte) (r : RefusalReason) (s : State) : (writeRefusal c q r s).active = s.active := rfl
@[simp] theorem writeRefusal_stagingSet (c : Chan) (q : Byte) (r : RefusalReason) (s : State) : (writeRefusal c q r s).stagingSet = s.stagingSet := rfl
@[simp] theorem writeRefusal_activeSet (c : Chan) (q : Byte) (r : RefusalReason) (s : State) : (writeRefusal c q r s).activeSet = s.activeSet := rfl
@[simp] theorem writeRefusal_committed (c : Chan) (q : Byte) (r : RefusalReason) (s : State) : (writeRefusal c q r s).committed = s.committed := rfl
@[simp] theorem writeRefusal_chans (c : Chan) (q : Byte) (r : RefusalReason) (s : State) : (writeRefusal c q r s).chans = s.chans := rfl
@[simp] theorem writeRefusal_pendQ (c : Chan) (q : Byte) (r : RefusalReason) (s : State) : (writeRefusal c q r s).pendQ = s.pendQ := rfl
@[simp] theorem writeRefusal_ctxs (c : Chan) (q : Byte) (r : RefusalReason) (s : State) : (writeRefusal c q r s).ctxs = s.ctxs := rfl
@[simp] theorem writeRefusal_window (c : Chan) (q : Byte) (r : RefusalReason) (s : State) : (writeRefusal c q r s).window = s.window := rfl
@[simp] theorem writeRefusal_lastRefusal (c : Chan) (q : Byte) (r : RefusalReason) (s : State) : (writeRefusal c q r s).lastRefusal = some ⟨c, q, r⟩ := rfl
@[simp] theorem writeRefusal_counts (c : Chan) (q : Byte) (r : RefusalReason) (s : State) : (writeRefusal c q r s).counts = s.counts := rfl
@[simp] theorem writeRefusal_emit (c : Chan) (q : Byte) (r : RefusalReason) (s : State) : (writeRefusal c q r s).emit = s.emit := rfl
@[simp] theorem writeRefusal_stages (c : Chan) (q : Byte) (r : RefusalReason) (s : State) : (writeRefusal c q r s).stages = s.stages := rfl
@[simp] theorem writeRefusal_upQ (c : Chan) (q : Byte) (r : RefusalReason) (s : State) : (writeRefusal c q r s).upQ = s.upQ := rfl
@[simp] theorem writeRefusal_utx (c : Chan) (q : Byte) (r : RefusalReason) (s : State) : (writeRefusal c q r s).utx = s.utx := rfl
@[simp] theorem writeRefusal_tick (c : Chan) (q : Byte) (r : RefusalReason) (s : State) : (writeRefusal c q r s).tick = s.tick := rfl
@[simp] theorem writeRefusal_zones (c : Chan) (q : Byte) (r : RefusalReason) (s : State) : (writeRefusal c q r s).zones = s.zones := rfl
@[simp] theorem writeRefusal_handler (c : Chan) (q : Byte) (r : RefusalReason) (s : State) : (writeRefusal c q r s).handler = s.handler := rfl
@[simp] theorem writeRefusal_log (c : Chan) (q : Byte) (r : RefusalReason) (s : State) : (writeRefusal c q r s).log = s.log := rfl
@[simp] theorem writeRefusal_overflow (c : Chan) (q : Byte) (r : RefusalReason) (s : State) : (writeRefusal c q r s).overflow = s.overflow := rfl
@[simp] theorem writeRefusal_rx (c : Chan) (q : Byte) (r : RefusalReason) (s : State) : (writeRefusal c q r s).rx = s.rx := rfl

/-! ## makeRecord -/

@[simp] theorem makeRecord_pending (k : FaultKind) (s : State) : (makeRecord k s).pending = s.pending := by unfold makeRecord; split <;> rfl
@[simp] theorem makeRecord_rstn (k : FaultKind) (s : State) : (makeRecord k s).rstn = s.rstn := by unfold makeRecord; split <;> rfl
@[simp] theorem makeRecord_supplyLow (k : FaultKind) (s : State) : (makeRecord k s).supplyLow = s.supplyLow := by unfold makeRecord; split <;> rfl
@[simp] theorem makeRecord_now (k : FaultKind) (s : State) : (makeRecord k s).now = s.now := by unfold makeRecord; split <;> rfl
@[simp] theorem makeRecord_eventNo (k : FaultKind) (s : State) : (makeRecord k s).eventNo = s.eventNo := by unfold makeRecord; split <;> rfl
@[simp] theorem makeRecord_mode (k : FaultKind) (s : State) : (makeRecord k s).mode = s.mode := by unfold makeRecord; split <;> rfl
@[simp] theorem makeRecord_causes (k : FaultKind) (s : State) : (makeRecord k s).causes = s.causes := by unfold makeRecord; split <;> rfl
@[simp] theorem makeRecord_startupHold (k : FaultKind) (s : State) : (makeRecord k s).startupHold = s.startupHold := by unfold makeRecord; split <;> rfl
@[simp] theorem makeRecord_shutdownFor (k : FaultKind) (s : State) : (makeRecord k s).shutdownFor = s.shutdownFor := by unfold makeRecord; split <;> rfl
@[simp] theorem makeRecord_staging (k : FaultKind) (s : State) : (makeRecord k s).staging = s.staging := by unfold makeRecord; split <;> rfl
@[simp] theorem makeRecord_active (k : FaultKind) (s : State) : (makeRecord k s).active = s.active := by unfold makeRecord; split <;> rfl
@[simp] theorem makeRecord_stagingSet (k : FaultKind) (s : State) : (makeRecord k s).stagingSet = s.stagingSet := by unfold makeRecord; split <;> rfl
@[simp] theorem makeRecord_activeSet (k : FaultKind) (s : State) : (makeRecord k s).activeSet = s.activeSet := by unfold makeRecord; split <;> rfl
@[simp] theorem makeRecord_committed (k : FaultKind) (s : State) : (makeRecord k s).committed = s.committed := by unfold makeRecord; split <;> rfl
@[simp] theorem makeRecord_chans (k : FaultKind) (s : State) : (makeRecord k s).chans = s.chans := by unfold makeRecord; split <;> rfl
@[simp] theorem makeRecord_pendQ (k : FaultKind) (s : State) : (makeRecord k s).pendQ = s.pendQ := by unfold makeRecord; split <;> rfl
@[simp] theorem makeRecord_ctxs (k : FaultKind) (s : State) : (makeRecord k s).ctxs = s.ctxs := by unfold makeRecord; split <;> rfl
@[simp] theorem makeRecord_window (k : FaultKind) (s : State) : (makeRecord k s).window = s.window := by unfold makeRecord; split <;> rfl
@[simp] theorem makeRecord_lastRefusal (k : FaultKind) (s : State) : (makeRecord k s).lastRefusal = s.lastRefusal := by unfold makeRecord; split <;> rfl
@[simp] theorem makeRecord_counts (k : FaultKind) (s : State) : (makeRecord k s).counts = s.counts := by unfold makeRecord; split <;> rfl
@[simp] theorem makeRecord_emit (k : FaultKind) (s : State) : (makeRecord k s).emit = s.emit := by unfold makeRecord; split <;> rfl
@[simp] theorem makeRecord_stages (k : FaultKind) (s : State) : (makeRecord k s).stages = s.stages := by unfold makeRecord; split <;> rfl
@[simp] theorem makeRecord_upQ (k : FaultKind) (s : State) : (makeRecord k s).upQ = s.upQ := by unfold makeRecord; split <;> rfl
@[simp] theorem makeRecord_utx (k : FaultKind) (s : State) : (makeRecord k s).utx = s.utx := by unfold makeRecord; split <;> rfl
@[simp] theorem makeRecord_tick (k : FaultKind) (s : State) : (makeRecord k s).tick = s.tick := by unfold makeRecord; split <;> rfl
@[simp] theorem makeRecord_zones (k : FaultKind) (s : State) : (makeRecord k s).zones = s.zones := by unfold makeRecord; split <;> rfl
@[simp] theorem makeRecord_handler (k : FaultKind) (s : State) : (makeRecord k s).handler = s.handler := by unfold makeRecord; split <;> rfl
@[simp] theorem makeRecord_rx (k : FaultKind) (s : State) : (makeRecord k s).rx = s.rx := by unfold makeRecord; split <;> rfl

@[simp] theorem makeRecord_log (k : FaultKind) (s : State) :
    (makeRecord k s).log = if s.log.length < Config.logCapacity then s.log ++ [⟨s.now, k⟩] else s.log := by
  unfold makeRecord; split <;> rfl

@[simp] theorem makeRecord_overflow (k : FaultKind) (s : State) :
    (makeRecord k s).overflow = if s.log.length < Config.logCapacity then s.overflow else satInc8 s.overflow := by
  unfold makeRecord; split <;> rfl

end Sys2Proof.Machine
end

