-- ==== Sys2Proof/Laws/Ops.lean ====
section
/-! SUPPORT. For each shared operation, what parts of State it can reach and, where one equation says it all, that equation. -/

namespace Sys2Proof.Machine

/-! ## Two kinds of work

Most shared operations reach the channels' side of State alone (`ChannelWork`), or that side with the log, the causes, the
mode and the counts (`ChargeWork`). Both relations are reflexive and transitive, so an operation's lemma follows from
those of the operations it calls. -/

/-- `t` differs from `s` in the runtime records, the Pending Queue, the charge contexts and the Emit Queue at most. -/
def ChannelWork (s t : State) : Prop :=
  t = { s with chans := t.chans, pendQ := t.pendQ, ctxs := t.ctxs, emit := t.emit }

/-- `t` differs from `s` in what channel work reaches, the Fault Log, the safe causes, the mode and the counts at most. -/
def ChargeWork (s t : State) : Prop :=
  t = { s with
    chans := t.chans, pendQ := t.pendQ, ctxs := t.ctxs, emit := t.emit
    log := t.log, overflow := t.overflow, causes := t.causes, mode := t.mode, counts := t.counts }

theorem ChannelWork.refl (s : State) : ChannelWork s s := rfl

theorem ChargeWork.refl (s : State) : ChargeWork s s := rfl

theorem ChannelWork.trans {s t u : State} (h : ChannelWork s t) (k : ChannelWork t u) : ChannelWork s u := by
  unfold ChannelWork at *
  rw [k, h]

theorem ChargeWork.trans {s t u : State} (h : ChargeWork s t) (k : ChargeWork t u) : ChargeWork s u := by
  unfold ChargeWork at *
  rw [k, h]

theorem ChannelWork.charge {s t : State} (h : ChannelWork s t) : ChargeWork s t := by
  unfold ChannelWork at h
  unfold ChargeWork
  rw [h]

/-- A fold of operations that each do channel work does channel work. -/
theorem ChannelWork.foldl {α : Type} {f : State → α → State} (h : ∀ s a, ChannelWork s (f s a)) (l : List α)
    (s : State) : ChannelWork s (l.foldl f s) := by
  induction l generalizing s with
  | nil => exact .refl s
  | cons a l ih => exact (h s a).trans (ih _)

/-- A fold of operations that each do charge work does charge work. -/
theorem ChargeWork.foldl {α : Type} {f : State → α → State} (h : ∀ s a, ChargeWork s (f s a)) (l : List α)
    (s : State) : ChargeWork s (l.foldl f s) := by
  induction l generalizing s with
  | nil => exact .refl s
  | cons a l ih => exact (h s a).trans (ih _)

/-! ## Events -/

/-- Outside device reset an event lets its time pass and then has its effect. -/
theorem event_active {s : State} (h : s.inReset = false) (dt : Nat) (f : State → State) :
    event dt f s = .next (f (s.advance dt)) := by
  simp [event, h]

/-- In device reset an event has no effect at all. -/
theorem event_in_reset {s : State} (h : s.inReset = true) (dt : Nat) (f : State → State) :
    event dt f s = .next s := by
  simp [event, h]

/-- Every event answers a next state: the state itself, or its effect on the state `dt` later. -/
theorem event_cases (dt : Nat) (f : State → State) (s : State) :
    event dt f s = .next s ∨ event dt f s = .next (f (s.advance dt)) := by
  unfold event
  split <;> simp

/-- A whole frame changes nothing, is counted as malformed, or is taken by its block. -/
theorem receiveFrame_cases (p : Port) (payload : List Byte) (take : State → State) (s : State) :
    (s.takesFrames p = false ∧ receiveFrame p payload take s = s) ∨
    (s.takesFrames p = true ∧ Config.maxPayload < payload.length ∧
      receiveFrame p payload take s = count (malformedCounter p) 1 (setRx p .hunt s)) ∨
    (s.takesFrames p = true ∧ payload.length ≤ Config.maxPayload ∧
      receiveFrame p payload take s = take (setRx p .hunt s)) := by
  unfold receiveFrame
  cases h : s.takesFrames p with
  | false => simp
  | true =>
    by_cases h' : Config.maxPayload < payload.length
    · simp [h']
    · simp [h', Nat.le_of_not_lt h']

/-! ## Fault records -/

/-- A record joins the log below 16 records, and the overflow count at 16; nothing else moves (R173). -/
theorem makeRecord_cases (k : FaultKind) (s : State) :
    (s.log.length < Config.logCapacity ∧ makeRecord k s = { s with log := s.log ++ [⟨s.now, k⟩] }) ∨
    (Config.logCapacity ≤ s.log.length ∧ makeRecord k s = { s with overflow := satInc8 s.overflow }) := by
  unfold makeRecord
  by_cases h : s.log.length < Config.logCapacity
  · simp [h]
  · simp [h, Nat.le_of_not_lt h]

theorem makeRecord_work (k : FaultKind) (s : State) : ChargeWork s (makeRecord k s) := by
  rcases makeRecord_cases k s with ⟨_, h⟩ | ⟨_, h⟩ <;> rw [h] <;> rfl

/-! ## Elementary channel work -/

theorem modChan_work (c : Chan) (f : ChanRec → ChanRec) (s : State) : ChannelWork s (modChan c f s) := rfl
theorem setState_work (c : Chan) (st : ChState) (v : Level) (s : State) : ChannelWork s (setState c st v s) := rfl
theorem stopOnTimer_work (c : Chan) (s : State) : ChannelWork s (stopOnTimer c s) := rfl
theorem removePend_work (c : Chan) (s : State) : ChannelWork s (removePend c s) := rfl
theorem fileDated_work (c : Chan) (r : Reason) (due : Time) (q : Byte) (s : State) :
    ChannelWork s (fileDated c r due q s) := rfl
theorem fileUndated_work (c : Chan) (r : Reason) (q : Byte) (s : State) :
    ChannelWork s (fileUndated c r q s) := rfl
theorem closeCtx_work (c : Chan) (s : State) : ChannelWork s (closeCtx c s) := rfl
theorem closeCtxOf_work (c : Chan) (s : State) : ChannelWork s (closeCtxOf c s) := rfl
theorem modCtx_work (c : Chan) (f : Ctx → Ctx) (s : State) : ChannelWork s (modCtx c f s) := rfl
theorem place_work (c : Chan) (v : Level) (k : EmitClass) (s : State) : ChannelWork s (place c v k s) := rfl
theorem quenchAll_work (s : State) : ChannelWork s (quenchAll s) := rfl

/-- A change of one channel's record, read back: that record changed, every other as it was. -/
theorem chan_modChan (c d : Chan) (f : ChanRec → ChanRec) (hf : ∀ r, (f r).id = r.id) (s : State) :
    (modChan c f s).chan d = (s.chan d).map fun r => if r.id = c then f r else r := by
  unfold State.chan modChan
  simp only [List.find?_map]
  congr 1
  refine congrArg (fun p => s.chans.find? p) (funext fun r => ?_)
  by_cases h : r.id = c <;> simp [h, hf]

/-! ## Placing in the Emit Queue (R88, R90) -/

/-- A placing reaches the waiting setting records and the creation order alone. -/
theorem EmitQueue.place_frame (q : EmitQueue) (now : Time) (c : Chan) (v : Level) (k : EmitClass) :
    q.place now c v k = { q with sets := (q.place now c v k).sets, nextOrder := (q.place now c v k).nextOrder } := by
  unfold EmitQueue.place
  split
  · rfl
  · dsimp only
    split <;> rfl

/-- A quench reaches the waiting setting records and the creation order alone. -/
theorem EmitQueue.quenchStage_frame (q : EmitQueue) (now : Time) (st : Stage) :
    q.quenchStage now st =
      { q with sets := (q.quenchStage now st).sets, nextOrder := (q.quenchStage now st).nextOrder } := by
  unfold EmitQueue.quenchStage
  split
  · rfl
  · dsimp only
    split <;> rfl

/-- Under the closed flag neither a placing nor a quench is stored (R100). -/
theorem EmitQueue.place_closed {q : EmitQueue} (h : q.closed = true) (now : Time) (c : Chan) (v : Level)
    (k : EmitClass) : q.place now c v k = q := by
  simp [EmitQueue.place, h]

theorem EmitQueue.quenchStage_closed {q : EmitQueue} (h : q.closed = true) (now : Time) (st : Stage) :
    q.quenchStage now st = q := by
  simp [EmitQueue.quenchStage, h]

/-! ## Holds (R42 to R44) -/

theorem addHold_work (k : HoldKind) (c : Chan) (s : State) : ChannelWork s (addHold k c s) := by
  unfold addHold
  split
  · rfl
  · split
    · refine ChannelWork.trans ?_ (modChan_work _ _ _)
      unfold forceOff
      dsimp only
      split <;> rfl
    · rfl

theorem addHolds_work (k : HoldKind) (cs : List Chan) (s : State) : ChannelWork s (addHolds k cs s) :=
  ChannelWork.foldl (fun s c => addHold_work k c s) cs s

theorem ChanRec.release_id (k : HoldKind) (r : ChanRec) : (r.release k).id = r.id := by
  unfold ChanRec.release
  split
  · split <;> rfl
  · rfl

theorem Holds.has_put (h : Holds) (k : HoldKind) (b : Bool) : (h.put k b).has k = b := by cases k <;> rfl

theorem ChanRec.release_release (k : HoldKind) (r : ChanRec) : (r.release k).release k = r.release k := by
  have h : (r.release k).holds.has k = false := by
    unfold ChanRec.release
    split
    · split <;> exact Holds.has_put _ _ _
    · exact Bool.eq_false_iff.mpr ‹¬ _›
  rw [ChanRec.release.eq_def k (r.release k), if_neg (by simp [h])]

/-- The removal of a hold from many channels, at once: each of them is released, and nothing else moves (R43, R44). -/
theorem removeHolds_eq (k : HoldKind) (cs : List Chan) (s : State) :
    removeHolds k cs s = { s with chans := s.chans.map fun r => if r.id ∈ cs then r.release k else r } := by
  unfold removeHolds
  induction cs generalizing s with
  | nil => simp
  | cons c cs ih =>
    rw [List.foldl_cons, ih]
    simp only [removeHold, modChan, List.map_map]
    congr 1
    refine List.map_congr_left fun r _ => ?_
    by_cases h : r.id = c <;> by_cases h' : r.id ∈ cs <;>
      simp_all [ChanRec.release_id, ChanRec.release_release]

theorem removeHolds_work (k : HoldKind) (cs : List Chan) (s : State) : ChannelWork s (removeHolds k cs s) := by
  rw [removeHolds_eq]
  rfl

/-! ## Safe causes (R124, R125) -/

theorem addCause_work (k : Cause) (s : State) : ChargeWork s (addCause k s) := by
  unfold addCause
  split
  · have h : ChannelWork s (addHolds .safe s.guarded (quenchAll s)) :=
      (quenchAll_work s).trans (addHolds_work _ _ _)
    refine h.charge.trans ?_
    rfl
  all_goals rfl

/-- The return to RUN happens in SAFE with no cause left, and removes SAFE from every guarded channel (R125). -/
theorem returnIfClear_cases (s : State) :
    (s.mode = .safe ∧ s.causes.isEmpty = true ∧
      returnIfClear s = { s with mode := .run, chans := s.chans.map (ChanRec.release .safe) }) ∨
    (¬ (s.mode = .safe ∧ s.causes.isEmpty = true) ∧ returnIfClear s = s) := by
  unfold returnIfClear
  by_cases h : s.mode = .safe ∧ s.causes.isEmpty = true
  · left
    refine ⟨h.1, h.2, ?_⟩
    rw [if_pos h]
    simp only [removeHolds_eq, State.guarded]
    congr 1
    exact List.map_congr_left fun r hr => by rw [if_pos (List.mem_map_of_mem hr)]
  · right
    exact ⟨h, by rw [if_neg h]⟩

theorem returnIfClear_work (s : State) : ChargeWork s (returnIfClear s) := by
  rcases returnIfClear_cases s with ⟨_, _, h⟩ | ⟨_, h⟩ <;> rw [h] <;> rfl

theorem removeCause_work (k : Cause) (s : State) : ChargeWork s (removeCause k s) := by
  unfold removeCause
  split
  · refine ChargeWork.trans ?_ (returnIfClear_work _)
    rfl
  · rfl

/-! ## The Charge Sequencer (Chapter 3) -/

theorem lendDonor_work (x : Ctx) (s : State) : ChannelWork s (lendDonor x s) := rfl

theorem judgeClearing_work (x : Ctx) (s : State) : ChannelWork s (judgeClearing x s) := by
  unfold judgeClearing
  split
  · rfl
  · split
    · rfl
    · split <;> rfl

theorem chargeFailure_work (t : Chan) (n : Nat) (s : State) : ChargeWork s (chargeFailure t n s) := by
  unfold chargeFailure
  dsimp only
  have h : ChargeWork s (makeRecord (.chargeFail t n) (closeCtx t s)) :=
    (closeCtx_work t s).charge.trans (makeRecord_work _ _)
  split
  · exact h.trans (addHold_work _ _ _).charge
  · exact h.trans ((setState_work _ _ _ _).charge.trans (addCause_work _ _))
  · exact h

theorem openCtx_work (t : Chan) (s : State) : ChargeWork s (openCtx t s) := by
  unfold openCtx
  split
  · rfl
  · split
    · split
      · exact chargeFailure_work _ _ _
      · refine ChargeWork.trans ?_ (judgeClearing_work _ _).charge
        rfl
    · rfl

theorem abortCtx_work (t : Chan) (s : State) : ChannelWork s (abortCtx t s) := by
  unfold abortCtx
  split
  · rfl
  · dsimp only
    split <;> rfl

theorem settleRead_work (x : Ctx) (s : State) : ChargeWork s (settleRead x s) := by
  unfold settleRead
  split
  · rfl
  · split
    · exact ((modCtx_work _ _ _).trans (judgeClearing_work _ _)).charge
    · exact chargeFailure_work _ _ _

theorem recharge_work (c : Chan) (s : State) : ChargeWork s (recharge c s) := by
  unfold recharge
  split
  · dsimp only
    have h : ChargeWork s (setState c .priming .on (stopOnTimer c (place c .off .normal s))) := rfl
    exact (h.trans (openCtx_work _ _)).trans (show ChargeWork _ (count .recharge 1 _) from rfl)
  · rfl

theorem maskChange_work (st : Stage) (old new : BitVec 16) (s : State) :
    ChargeWork s (maskChange st old new s) :=
  ChargeWork.foldl (fun s c => recharge_work c s) _ s

/-! ## The Channel State Unit (Chapter 2) -/

theorem switchOn_work (c : Chan) (s : State) : ChannelWork s (switchOn c s) := rfl
theorem switchOff_work (c : Chan) (s : State) : ChannelWork s (switchOff c s) := rfl
theorem urgentOff_work (c : Chan) (s : State) : ChannelWork s (urgentOff c s) := rfl

theorem onPath_work (c : Chan) (q : Byte) (s : State) : ChargeWork s (onPath c q s) := by
  unfold onPath
  split
  · rfl
  · split
    · rfl
    · split
      · rfl
      · split
        · rfl
        · split
          · rfl
          · split
            · refine ChargeWork.trans ?_ (openCtx_work _ _)
              rfl
            · rfl

theorem onRequest_work (c : Chan) (q : Byte) (s : State) : ChargeWork s (onRequest c q s).2 := by
  unfold onRequest
  split
  · rfl
  · split
    · rfl
    · split
      · rfl
      · split
        · refine ChargeWork.trans ?_ (onPath_work _ _ _)
          rfl
        · rfl
        · rfl

theorem offRequestInOn_work (r : ChanRec) (e : Entry) (q : Byte) (s : State) :
    ChannelWork s (offRequestInOn r e q s) := by
  unfold offRequestInOn
  split
  · rfl
  · split
    · rfl
    · split
      · rfl
      · split <;> rfl

theorem offRequest_work (c : Chan) (q : Byte) (s : State) : ChargeWork s (offRequest c q s) := by
  unfold offRequest
  split
  · split
    · exact (offRequestInOn_work _ _ _ _).charge
    · rfl
    · exact ((abortCtx_work _ _).trans (setState_work _ _ _ _)).charge
    · rfl
  · rfl

theorem takeDead_work (e : PendEntry) (s : State) : ChargeWork s (takeDead e s) :=
  (removePend_work _ _).charge.trans (onPath_work _ _ _)

theorem takeDwell_work (e : PendEntry) (s : State) : ChannelWork s (takeDwell e s) := rfl

theorem onTimerExpires_work (c : Chan) (s : State) : ChargeWork s (onTimerExpires c s) := by
  unfold onTimerExpires
  split
  · exact (urgentOff_work _ _).charge.trans (makeRecord_work _ _)
  · rfl
  · rfl

theorem updateEmitted_work (rec : EmitRec) (s : State) : ChannelWork s (updateEmitted rec s) := rfl

theorem startOnTimer_work (c : Chan) (s : State) : ChannelWork s (startOnTimer c s) := rfl

theorem dateDwell_work (c : Chan) (s : State) : ChannelWork s (dateDwell c s) := by
  unfold dateDwell
  split
  · split <;> rfl
  · rfl

theorem onEmitted_work (c : Chan) (s : State) : ChargeWork s (onEmitted c s) := by
  unfold onEmitted
  split
  · dsimp only
    split
    · exact (startOnTimer_work _ _).charge.trans (onTimerExpires_work _ _)
    · rfl
  · dsimp only
    have h : ChannelWork s (dateDwell c (startOnTimer c s)) := (startOnTimer_work c s).trans (dateDwell_work _ _)
    split
    · split
      · exact (h.trans (takeDwell_work _ _)).charge
      · split
        · exact h.charge.trans (onTimerExpires_work _ _)
        · exact h.charge
    · split
      · exact h.charge.trans (onTimerExpires_work _ _)
      · exact h.charge
  · rfl

theorem offEmitted_work (c : Chan) (s : State) : ChargeWork s (offEmitted c s) := by
  unfold offEmitted
  split
  · rfl
  · split
    · split
      · dsimp only
        split
        · refine ChargeWork.trans ?_ (takeDead_work _ _)
          rfl
        · rfl
      · rfl
    · rfl

theorem emissionConsequence_work (c : Chan) (v : Level) (s : State) :
    ChargeWork s (emissionConsequence c v s) := by
  cases v with
  | on => exact onEmitted_work c s
  | off => exact offEmitted_work c s

theorem ctxEmitted_work (rec : EmitRec) (t : Chan) (s : State) : ChargeWork s (ctxEmitted rec t s) := by
  unfold ctxEmitted
  split
  · rfl
  · split
    · split
      · exact (judgeClearing_work _ _).charge
      · rfl
    · split <;> rfl
    · split
      · dsimp only
        split
        · refine ChargeWork.trans ?_ (settleRead_work _ _)
          rfl
        · rfl
      · rfl
    · rfl
    · rfl

/-- An emission completion reaches no more than charge work does (R33 to R35, R52 to R59). -/
theorem emissionTaken_work (rec : EmitRec) (s : State) : ChargeWork s (emissionTaken rec s) := by
  unfold emissionTaken
  dsimp only
  have h := ChargeWork.foldl (f := fun s (cv : Chan × Level) => emissionConsequence cv.1 cv.2 s)
    (fun s cv => emissionConsequence_work cv.1 cv.2 s) (concerned rec (updateEmitted rec s)) (updateEmitted rec s)
  exact ((updateEmitted_work rec s).charge.trans h).trans
    (ChargeWork.foldl (fun s t => ctxEmitted_work rec t s) _ _)

/-! ## Stage records and zones -/

/-- A stage record replaced: that record, and channel work for the STAGE hold (R111). -/
theorem setStage_work (st : Stage) (r : StageRec) (s : State) :
    ChannelWork { s with stages := s.stages.set st r } (setStage st r s) := by
  unfold setStage
  dsimp only
  split
  · exact addHolds_work _ _ _
  · split
    · exact removeHolds_work _ _ _
    · rfl

/-- A Zone Monitor's state and timer set: its unit, and channel work for the ZONE hold (R151). -/
theorem setZone_work (z : Zone) (st : ZoneState) (timer : Option Time) (s : State) :
    ChannelWork { s with zones := s.zones.set z { s.zones.get z with state := st, timer := timer } }
      (setZone z st timer s) := by
  unfold setZone
  dsimp only
  split
  · exact addHolds_work _ _ _
  · split
    · exact removeHolds_work _ _ _
    · rfl

/-! ## Octets on a line (R178) -/

/-- What ten sampled levels are to a receiver: the octet of their data bits with a high stop bit, else a framing fault. -/
theorem levelsCommand_cases (dt : Nat) (p : Port) (levels : List Bool) :
    (levels.getD 9 false = true ∧ ∃ b, readLevels levels = some b ∧ levelsCommand dt p levels = .octetSampled dt p b) ∨
    (levels.getD 9 false = false ∧ readLevels levels = none ∧ levelsCommand dt p levels = .framingFault dt p) := by
  unfold levelsCommand readLevels
  cases levels.getD 9 false <;> simp

/-! ## Responses (R156, R157, R159) -/

/-- The end of a request's work: its response placed with its log removal, or waiting in REPLYING (R159). -/
theorem finish_cases (req : Request) (resp : Response) (s : State) :
    (s.upQ.length < Config.upstreamCapacity ∧ finish req resp s = placeResponse req resp s) ∨
    (Config.upstreamCapacity ≤ s.upQ.length ∧ finish req resp s = { s with handler := .replying req resp }) := by
  unfold finish State.upRoom
  by_cases h : s.upQ.length < Config.upstreamCapacity
  · simp [h]
  · simp [h, Nat.le_of_not_lt h]

/-- A response without log removal: one frame at the tail of the Upstream Queue, and the handler IDLE. -/
theorem placeResponse_plain (req : Request) (r : Result) (body : List Byte) (s : State) :
    placeResponse req ⟨r, body, 0⟩ s =
      { s with handler := .idle, upQ := s.upQ ++ [respFrame req r body { s with handler := .idle }] } := by
  simp [placeResponse, removeRecords, pushUp, respFrame, State.summary, State.alert, State.inReset]

/-- A BUSY reply: one frame upward, or one mgmt-drop count (R156). -/
theorem busyReply_cases (req : Request) (s : State) :
    (s.upQ.length < Config.upstreamCapacity ∧ busyReply req s = pushUp (respFrame req .busy [] s) s) ∨
    (Config.upstreamCapacity ≤ s.upQ.length ∧ busyReply req s = count .mgmtDrop 1 s) := by
  unfold busyReply State.upRoom
  by_cases h : s.upQ.length < Config.upstreamCapacity
  · simp [h]
  · simp [h, Nat.le_of_not_lt h]

end Sys2Proof.Machine
end

