-- ==== Sys2Proof/Tests/Slice0.lean ====
section
/-! SUPPORT. The tests: ill-formed commands refused, single steps of the spec's worked examples, and for each statement with hypotheses states and operands that meet them. Expected values are those of the section named, or reckoned by hand from its tables. -/

namespace Sys2Proof.Tests

open Sys2Proof Sys2Proof.Machine

/-! ## Ill-formed commands -/

theorem test_wellFormed_refuses_a_long_interval : Instr.wellFormed (.tick (2 ^ 31) 15 0 []) = false := by decide
theorem test_wellFormed_takes_the_longest_interval : Instr.wellFormed (.tick (2 ^ 31 - 1) 15 0 []) = true := by decide
theorem test_wellFormed_refuses_33_payload_octets :
    Instr.wellFormed (.auxFrame 0 1 0 (List.replicate 33 0)) = false := by decide
theorem test_wellFormed_refuses_32_argument_octets :
    Instr.wellFormed (.query 0 15 0 (List.replicate 32 0)) = false := by decide
theorem test_wellFormed_refuses_a_known_name_as_unknown :
    Instr.wellFormed (.unknownRequest 0 15 0 [14]) = false := by decide
theorem test_wellFormed_takes_an_unknown_name :
    Instr.wellFormed (.unknownRequest 0 15 0 [15]) = true ∧ Instr.wellFormed (.unknownRequest 0 15 0 []) = true := by
  decide

/-! ## States of the worked examples -/

/-- The state after one command, where it answers one. -/
def next (c : Instr) (s : State) : Option State :=
  match exec c s with
  | .next t => some t
  | .fault _ => none
  | .refused _ => none

/-- The table of section 1.8 as it is installed: the pairs 0.4 and 0.5 (a precondition on 0.4) and 1.1 and 1.2, and 2.8
alone; 1.1 with the dwell of section 2.12. -/
def table : List Entry :=
  [⟨4, some 5, 2, 0, none, some 0, some ⟨40, 3⟩, .lock⟩, ⟨5, some 4, 2, 0, none, some 0, none, .lock⟩,
    ⟨17, some 18, 3, 500, none, none, none, .lock⟩, ⟨18, some 17, 3, 0, none, none, none, .lock⟩,
    ⟨40, none, 0, 30000, some 20, some 1, none, .lock⟩]

/-- The settings of sections 7.11 and 8.7, with a report timeout of 5 ms and zone 1 in TOGGLE mode with 5 ms. -/
def settings : Settings :=
  { passPolicy := .opened, tmin := 20, tw := 50, grace := 100, failLimit := 3, resetPulse := 10, reportTimeout := 5,
    zoneMode := ⟨.direct, .toggle⟩, zoneTimeout := ⟨100, 5⟩, commitInRun := true }

/-- A channel that is OFF since long. -/
def restOf (c : Chan) : ChanRec := ⟨c, .off, Holds.none, .off, .off, some 0, none, none⟩

/-- The guard in RUN at guard time 1000 µs with every channel OFF, nothing waiting and both zones RELEASED. -/
def inRun : State :=
  { State.powerOn with
    now := 1000
    mode := .run
    committed := true
    staging := table
    active := table
    stagingSet := settings
    activeSet := settings
    chans := [restOf 4, restOf 5, restOf 17, restOf 18, restOf 40]
    window := ⟨true, 40⟩
    tick := ⟨.openFirst, some 70000, 0⟩
    stages := ⟨⟨.present, 0x20, false, some 5000⟩, ⟨.present, 6, false, some 5000⟩, ⟨.present, 0, false, some 5000⟩,
      StageRec.initial⟩
    zones := ⟨⟨true, true, none, .released, none⟩, ⟨false, false, none, .released, some 6000⟩⟩ }

/-- The guard in CONFIG with the same table, every channel FORCED by MODE. -/
def inConfig : State :=
  { inRun with
    mode := .config
    tick := ⟨.off, none, 0⟩
    chans := inRun.chans.map fun r => { r with state := .forced, holds := Holds.none.put .mode true }
    stages := ⟨StageRec.initial, StageRec.initial, StageRec.initial, StageRec.initial⟩
    zones := ⟨⟨true, true, none, .inactive, none⟩, ⟨false, false, none, .inactive, none⟩⟩ }

/-- The guard in SAFE for STREAM, every channel FORCED by SAFE, the monitor in OPEN_FIRST. -/
def inSafe : State :=
  { inRun with
    mode := .safe
    causes := ⟨true, false, false⟩
    chans := inRun.chans.map fun r => { r with state := .forced, holds := Holds.none.put .safe true } }

/-- The guard in SHUTDOWN for 219 ms. -/
def inShutdown : State :=
  { inConfig with mode := .shutdown, shutdownFor := 219000, utx := .silent, emit := { EmitQueue.empty with closed := true } }

/-- The guard in device reset with both causes. -/
def inBothResets : State := { State.powerOn with rstn := true, supplyLow := true }

/-- The state with a channel's record changed. -/
def withChan (c : Chan) (f : ChanRec → ChanRec) (s : State) : State := modChan c f s

/-- 1.1 switched on and emitted at 100 µs. -/
def onSince100 (c : Chan) (s : State) : State :=
  withChan c (fun r => { r with state := .on, requested := .on, effective := .on, onTime := some 100 }) s

/-- A setting record of one setting. -/
def oneSetting (c : Chan) (v : Level) (k : EmitClass) (order : Nat) : SetRec :=
  ⟨Chan.stage c, k, false, [⟨Chan.output c, v⟩], 900, order⟩

/-- The context of section 3.10 in a phase. -/
def context (p : Phase) (attempt : Nat) (timer : Option Time) : Ctx := ⟨4, 5, p, attempt, 40, 3, 2, timer⟩

/-- The guard while 0.4 primes with 0.5 as its donor. -/
def priming (p : Phase) (attempt : Nat) (timer : Option Time) : State :=
  withChan 4 (fun r => { r with state := .priming, requested := .on })
    (withChan 5 (fun r => if p.lends then { r with state := .lent } else r)
      { inRun with ctxs := [context p attempt timer] })

/-- A full log of STAGE_FAULT records. -/
def logOf (n : Nat) : List FaultRec := List.replicate n ⟨7, .stageFault 2⟩

/-- A report of stage 2, as it is forwarded. -/
def aReport : Frame := ⟨.report, 2, 9, [0, 0, 0]⟩

/-! ## Reset, wake and the start-up hold (sections 5.7, 7.5, 12.6) -/

theorem test_device_reset_asserts_CTLRST :
    (next (.deviceReset 5 .rstn) inRun).map (fun t => (t.ctlrst, t.alert, t.mode, t.active)) =
      some (true, false, .config, []) := by decide
theorem test_release_reaches_the_reset_state :
    next (.resetRelease 5 .supply) { State.powerOn with supplyLow := true } = some State.reset := by decide
theorem test_startup_hold_ends_at_10_ms :
    (next (.startupHoldExpiry 10000) State.reset).map State.ctlrst = some false := by decide
theorem test_startup_hold_runs_before_10_ms :
    (next (.startupHoldExpiry 9999) State.reset).map State.ctlrst = some true := by decide
theorem test_wake_after_3_ms :
    (next (.wakeRestart 4000 3000) inShutdown).map (fun t => (t.mode, t.emit.sets.length, t.ctlrst, t.committed)) =
      some (.config, 4, true, true) := by decide
theorem test_no_wake_after_1_ms :
    (next (.wakeRestart 4000 1000) inShutdown).map State.mode = some .shutdown := by decide

/-! ## Command Intake (section 4.9) -/

theorem test_drive_gap_conflict_and_forwarding :
    (next (.driveFrame 5 1 43 [0x81, 0x82, 0x87, 0x03]) inRun).map (fun t =>
      (t.counts.gap, t.window.last, t.log, t.emit.sets.map SetRec.settings)) =
      some (2, 43, [⟨1005, .conflict 17 43⟩], [[⟨7, .on⟩, ⟨3, .off⟩]]) := by decide
theorem test_drive_conflict_with_a_requested_partner :
    (next (.driveFrame 5 1 41 [0x82]) (onSince100 17 inRun)).map (fun t => (t.counts.refusedConflict, t.lastRefusal)) =
      some (1, some ⟨18, 41, .conflict⟩) := by decide
theorem test_aux_joins_the_queue :
    (next (.auxFrame 8 1 200 [1, 2, 3, 4]) inRun).map (fun t => (t.emit.auxs, t.window)) =
      some ([⟨1, [1, 2, 3, 4], 1008, 0⟩], ⟨true, 40⟩) := by decide
theorem test_aux_dropped_when_four_wait :
    (next (.auxFrame 8 1 200 [1])
      { inRun with emit := { EmitQueue.empty with auxs := List.replicate 4 ⟨0, [], 0, 0⟩ } }).map
      (fun t => t.counts.auxDrop) = some 1 := by decide

/-! ## Supervision (sections 8.7, 8.8, 12.6) -/

theorem test_valid_tick_closes_the_window :
    (next (.tick 29000 15 0 []) inRun).map State.tick = some ⟨.closed, some 50000, 0⟩ := by decide
theorem test_early_tick_enters_safe :
    (next (.tick 9000 15 0 []) { inRun with tick := ⟨.closed, some 20000, 0⟩ }).map
      (fun t => (t.tick, t.mode, t.causes, t.log)) =
      some (⟨.resetting, some 20000, 1⟩, .safe, ⟨true, false, false⟩, [⟨10000, .streamEarly⟩]) := by decide
theorem test_closed_goes_to_open :
    (next (.closedExpiry 49000) { inRun with tick := ⟨.closed, some 50000, 0⟩ }).map State.tick =
      some ⟨.opened, some 100000, 0⟩ := by decide
theorem test_late_failure_at_the_limit :
    (next (.lateFailure 69000) { inRun with tick := ⟨.openFirst, some 70000, 3⟩ }).map
      (fun t => (t.mode, t.log.map FaultRec.kind, t.tick.state)) =
      some (.shutdown, [.streamLate, .streamLimit], .off) := by decide
theorem test_resetting_goes_to_grace :
    (next (.resettingExpiry 9000) { inSafe with tick := ⟨.resetting, some 10000, 1⟩ }).map
      (fun t => (t.tick, t.ctlrst)) = some (⟨.grace, some 110000, 1⟩, false) := by decide
theorem test_grace_goes_to_open_first :
    (next (.graceExpiry 9000) { inSafe with tick := ⟨.grace, some 10000, 1⟩ }).map State.tick =
      some ⟨.openFirst, some 80000, 1⟩ := by decide
theorem test_rising_edge_is_measured :
    (next (.zoneLineEdge 400 1 true) inRun).map (fun t => t.zones.z1.measuring) = some (some 1400) := by decide
theorem test_recognised_change_restarts_the_toggle_timer :
    (next (.recognisedChange 410 1)
      { inRun with zones := { inRun.zones with z1 := ⟨true, false, some 1400, .blocked .notYet, none⟩ } }).map
      (fun t => (t.zones.z1.state, t.zones.z1.timer)) = some (.released, some 6410) := by decide
theorem test_toggling_zone_stops :
    (next (.toggleTimerExpiry 5000 1) (onSince100 40 inRun)).map (fun t =>
      (t.zones.z1.state, (t.chan 40).map ChanRec.state, t.offWaiting 40, t.log)) =
      some (.blocked .timeout, some .forced, true, [⟨6000, .zoneTimeout 1⟩]) := by decide

/-! ## Management requests (sections 1.8, 7.11, 9.5, 11.5, 12.5) -/

theorem test_query_counts :
    (next (.query 2 15 10 [3]) inRun).map State.upQ =
      some [⟨.resp, 15, 10, [1, 0, 0x11, 0, 0, 0, 0, 0, 0, 0, 0, 0, 0, 0, 0, 0, 0]⟩] := by decide
theorem test_channel_read_of_a_channel_at_rest :
    (next (.channelRead 2 15 10 [5]) (priming .charging 2 (some 1040))).map (fun t =>
      (t.upQ.map fun f => (f.payload.drop 3).take 4, t.upQ.map fun f => (f.payload.drop 24).take 8)) =
      some ([[0x25, 0, 0x36, 0x32]], [[4, 4, 0, 2, 0, 0, 4, 16]]) := by decide
theorem test_table_read_of_the_target :
    (next (.tableRead 2 15 1 [0, 4]) inRun).map (fun t => t.upQ.map fun f => f.payload.drop 3) =
      some [[4, 5, 0, 2, 0, 0, 0, 0, 1, 4, 3, 0]] := by decide
theorem test_table_write_of_the_target :
    (next (.tableWrite 2 15 1 [4, 5, 0, 2, 0, 0, 0, 0, 1, 4, 3, 0]) { inRun with staging := [] }).map State.staging =
      some [⟨4, some 5, 2, 0, none, some 0, some ⟨40, 3⟩, .lock⟩] := by decide
theorem test_table_delete :
    (next (.tableDelete 2 15 1 [18]) inRun).map (fun t => t.staging.map Entry.id) = some [4, 5, 17, 40] := by decide
theorem test_settings_read_after_reset :
    (next (.settingsRead 2 15 1 [1]) State.reset).map (fun t => t.upQ.map fun f => f.payload.drop 3) =
      some [[0, 0, 50, 10, 0, 10, 0, 0, 0, 100, 100, 0]] := by decide
theorem test_settings_write :
    (next (.settingsWrite 2 15 1 [1, 20, 50, 10, 3, 10, 5, 1, 2, 100, 5, 1]) State.reset).map State.stagingSet =
      some settings := by decide
theorem test_commit_due_after_17_us :
    (next (.commit 0 15 1 []) inRun).map State.handler = some (.working ⟨1, 8, []⟩ 1017) := by decide
theorem test_commit_refused_mode_with_other_settings :
    (next (.commit 0 15 1 []) { inRun with stagingSet := Settings.powerOn }).map (fun t => (t.handler, t.upQ)) =
      some (.idle, [⟨.resp, 15, 1, [8, 7, 0x11]⟩]) := by decide
theorem test_validation_fails_on_dead_mismatch :
    (next (.validationCompletion 11)
      { inConfig with
        handler := .working ⟨1, 8, []⟩ 1011
        staging := table.map fun e => if e.id = 18 then { e with deadTime := 4 } else e }).map State.upQ =
      some [⟨.resp, 15, 1, [8, 5, 0x10, 17, 6]⟩] := by decide
theorem test_first_install_adopts_all_five :
    (next (.validationCompletion 17)
      { State.powerOn with staging := table, handler := .working ⟨1, 8, []⟩ 17 }).map (fun t =>
      (t.guarded, t.chans.all fun r => r.state == .forced && r.effective == .on, t.emit.sets.map SetRec.settings)) =
      some ([4, 5, 17, 18, 40], true, [[⟨4, .off⟩, ⟨5, .off⟩], [⟨1, .off⟩, ⟨2, .off⟩], [⟨8, .off⟩]]) := by decide
theorem test_discard :
    (next (.discard 0 15 1 []) { inRun with staging := [] }).map (fun t => t.staging) = some table := by decide
theorem test_start :
    (next (.start 0 15 1 []) inConfig).map (fun t =>
      (t.mode, t.tick, t.zones.z1.state, t.chans.map ChanRec.state, t.upQ)) =
      some (.run, ⟨.openFirst, some 71000, 0⟩, .blocked .notYet, [.off, .off, .off, .off, .forced],
        [⟨.resp, 15, 1, [10, 0, 0x11]⟩]) := by decide
theorem test_start_refused_in_run :
    (next (.start 0 15 1 []) inRun).map State.upQ = some [⟨.resp, 15, 1, [10, 7, 0x11]⟩] := by decide
theorem test_stop :
    (next (.stop 0 15 1 []) (onSince100 17 inRun)).map (fun t =>
      (t.mode, t.tick, t.emit.sets.map (fun r => (r.stage, r.quench)), t.upQ)) =
      some (.config, ⟨.off, none, 0⟩, [(0, true), (1, true), (2, true), (3, true)],
        [⟨.resp, 15, 1, [11, 0, 0x10]⟩]) := by decide
theorem test_safe_joins_the_causes :
    (next (.safe 0 15 1 []) inSafe).map (fun t => (t.causes, t.upQ)) =
      some (⟨true, true, false⟩, [⟨.resp, 15, 1, [12, 0, 0x16]⟩]) := by decide
theorem test_resume_returns_to_run :
    (next (.resume 0 15 1 []) { inSafe with causes := ⟨false, true, false⟩ }).map (fun t =>
      (t.mode, t.chans.map ChanRec.state, t.alert)) = some (.run, List.replicate 5 .off, false) := by decide
theorem test_log_read_of_four_gives_three :
    (next (.logRead 0 15 9 [4]) { inRun with log := logOf 5, upQ := List.replicate 7 aReport }).map (fun t =>
      (t.log.length, t.upQ.length, (t.upQ.drop 7).map fun f => f.payload.take 11)) =
      some (2, 8, [[14, 0, 0x1D, 6, 0, 0, 0, 7, 255, 0x2F, 0]]) := by decide
theorem test_busy_reply_dropped :
    (next (.channelRead 4 15 11 [4])
      { inRun with handler := .replying ⟨10, 1, [3]⟩ ⟨.ok, [], 0⟩, upQ := List.replicate 8 aReport }).map
      (fun t => (t.upQ.length, t.counts.mgmtDrop)) = some (8, 1) := by decide
theorem test_unknown_request :
    (next (.unknownRequest 0 15 1 [15, 3]) inRun).map State.upQ = some [⟨.resp, 15, 1, [15, 9, 0x11]⟩] := by decide

/-! ## Stage reports (section 6.7) -/

theorem test_report_returns_a_lost_stage :
    (next (.report 300 1 9 [0, 6, 0])
      { inRun with
        stages := { inRun.stages with s1 := ⟨.lost, 0, false, none⟩ }
        chans := inRun.chans.map fun r =>
          if Chan.stage r.id = 1 then { r with state := .forced, holds := Holds.none.put .stage true } else r }).map
      (fun t => (t.stages.s1, t.chans.map ChanRec.state, t.upQ)) =
      some (⟨.present, 6, false, some 6300⟩, List.replicate 5 .off, [⟨.report, 1, 9, [0, 6, 0]⟩]) := by decide
theorem test_report_timer_loses_the_stage :
    (next (.reportTimerExpiry 4000 1) (onSince100 17 inRun)).map (fun t =>
      (t.stages.s1, t.chans.map ChanRec.state, t.emit.sets.map SetRec.settings, t.log)) =
      some (⟨.lost, 0, false, none⟩, [.off, .off, .forced, .forced, .off], [[⟨1, .off⟩]],
        [⟨5000, .stageLost 1⟩]) := by decide

/-! ## Channels and charge contexts (sections 2.12, 3.10, 12.3, 12.4) -/

theorem test_dead_entry_switches_on :
    (next (.deadEntryTaken 3)
      (withChan 18 (fun r => { r with state := .wait, requested := .on })
        { inRun with
          pendQ := [⟨18, .dead, some 1003, 0, 21⟩]
          chans := inRun.chans.map fun r => if r.id = 17 then { r with lastOff := some 1000 } else r })).map
      (fun t => ((t.chan 18).map ChanRec.state, t.pendQ, t.onWaiting 18)) = some (some .on, [], true) := by decide
theorem test_dwell_entry_switches_off :
    (next (.dwellEntryTaken 500)
      (withChan 17 (fun r => { r with state := .onHold })
        { onSince100 17 inRun with pendQ := [⟨17, .dwell, some 1500, 0, 21⟩] })).map
      (fun t => ((t.chan 17).map ChanRec.state, t.pendQ, t.offWaiting 17)) = some (some .off, [], true) := by decide
theorem test_on_timer_truncates :
    (next (.onTimerExpiry 19100 40) (withChan 40 (fun r => { r with onTimer := some 20100 }) (onSince100 40 inRun))).map
      (fun t => ((t.chan 40).map ChanRec.state, t.emit.sets.map SetRec.cls, t.log)) =
      some (some .off, [.urgent], [⟨20100, .truncated 40⟩]) := by decide
theorem test_clearing_timer_lends_the_donor :
    (next (.clearingTimerExpiry 2 4)
      (withChan 4 (fun r => { r with lastOff := some 1000 }) (priming .clearing 1 (some 1002)))).map
      (fun t => (t.ctxs, (t.chan 5).map ChanRec.state, t.onWaiting 5)) =
      some ([context .donorOn 1 none], some .lent, true) := by decide
theorem test_charging_ends :
    (next (.chargingExpiry 40 4) (priming .charging 1 (some 1040))).map
      (fun t => (t.ctxs, (t.chan 5).map ChanRec.state, t.offWaiting 5)) =
      some ([context .donorOff 1 none], some .off, true) := by decide
theorem test_settle_starts_the_second_attempt :
    (next (.settleExpiry 2 4) (priming .settle 1 (some 1002))).map
      (fun t => (t.ctxs, (t.chan 5).map ChanRec.state)) = some ([context .donorOn 2 none], some .lent) := by decide
theorem test_settle_fails_at_the_limit :
    (next (.settleExpiry 2 4) (priming .settle 3 (some 1002))).map
      (fun t => (t.ctxs, (t.chan 4).map ChanRec.holds, t.log)) =
      some ([], some (Holds.none.put .lock true), [⟨1002, .chargeFail 4 3⟩]) := by decide

/-! ## The transmitters (sections 5.8, 2.12, 9.5) -/

theorem test_arbiter_takes_the_urgent_record :
    (next (.arbiterChoice 0)
      { inRun with
        emit := { EmitQueue.empty with
          sets := [⟨2, .normal, false, [⟨5, .on⟩], 4, 0⟩, ⟨2, .urgent, false, [⟨0, .off⟩], 6, 1⟩]
          auxs := [⟨1, [1, 2, 3, 4], 8, 2⟩]
          nextOrder := 3
          dseq := 18 } }).map (fun t => (t.dFrame, t.emit.dseq)) =
      some (some ⟨.drive, 2, 18, [0]⟩, 19) := by decide
theorem test_arbiter_takes_the_older_normal_record :
    (next (.arbiterChoice 0)
      { inRun with
        emit := { EmitQueue.empty with
          sets := [⟨2, .normal, false, [⟨5, .on⟩], 4, 0⟩]
          auxs := [⟨1, [1, 2, 3, 4], 8, 2⟩]
          dseq := 255 } }).map (fun t => (t.dFrame, t.emit.dseq)) =
      some (some ⟨.drive, 2, 255, [0x85]⟩, 0) := by decide
theorem test_on_emission_dates_the_dwell :
    (next (.emissionCompletion 8)
      (withChan 17 (fun r => { r with state := .onHold })
        { inRun with
          emit := { EmitQueue.empty with dtx := .sending (.set (oneSetting 17 .on .normal 0)) 20 }
          pendQ := [⟨18, .partner, none, 0, 21⟩, ⟨17, .dwell, none, 0, 21⟩] })).map
      (fun t => (t.pendQ.map fun e => (e.chan, e.due), (t.chan 17).map ChanRec.onTime, t.emit.dtx)) =
      some ([(17, some 1508), (18, none)], some (some 1008), .gap) := by decide
theorem test_off_emission_dates_the_partner :
    (next (.emissionCompletion 9)
      { inRun with
        emit := { EmitQueue.empty with dtx := .sending (.set (oneSetting 17 .off .normal 0)) 20 }
        pendQ := [⟨18, .partner, none, 0, 21⟩] }).map
      (fun t => (t.pendQ.map fun e => (e.chan, e.reason, e.due), (t.chan 17).map ChanRec.lastOff)) =
      some ([(18, .dead, some 1012)], some (some 1009)) := by decide
theorem test_gap_ends_in_idle :
    (next (.dPortGapEnd 2) { inRun with emit := { EmitQueue.empty with dtx := .gap } }).map (fun t => t.emit.dtx) =
      some .idle := by decide
theorem test_gap_ends_in_silence :
    (next (.dPortGapEnd 2) { inShutdown with emit := { inShutdown.emit with dtx := .gap } }).map
      (fun t => t.emit.dtx) = some .silent := by decide
theorem test_waiting_response_takes_the_room :
    (next (.headTaken 3)
      { inRun with handler := .replying ⟨10, 1, [3]⟩ ⟨.ok, [0, 0], 0⟩, upQ := List.replicate 8 aReport }).map
      (fun t => (t.utx, t.handler, t.upQ.length, t.upQ.drop 7)) =
      some (.sending aReport, .idle, 8, [⟨.resp, 15, 10, [1, 0, 0x11, 0, 0]⟩]) := by decide
theorem test_upstream_frame_sent :
    (next (.uPortFrameSent 11) { inRun with utx := .sending aReport }).map State.utx = some .gap := by decide
theorem test_upstream_gap_ends :
    (next (.uPortGapEnd 3) { inRun with utx := .gap }).map State.utx = some .idle := by decide

/-! ## Receivers (sections 11.2, 11.3) -/

/-- The check value of this CRC-16 over the octets of 123456789, as catalogues of such checks list it: 0x29B1. -/
theorem test_crc_check_value :
    crc [0x31, 0x32, 0x33, 0x34, 0x35, 0x36, 0x37, 0x38, 0x39] = 0x29B1 := by decide +kernel
/-- The ten levels of 0x1D, written out from R178: low, then 1, 0, 1, 1, 1, 0, 0, 0 from bit 0 on, then high. -/
theorem test_levels_of_an_octet :
    octetLevels 0x1D = [false, true, false, true, true, true, false, false, false, true] ∧
    levelsCommand 3 .u [false, true, false, true, true, true, false, false, false, true] = .octetSampled 3 .u 0x1D ∧
    levelsCommand 3 .u [false, true, false, true, true, true, false, false, false, false] = .framingFault 3 .u := by
  decide
theorem test_framing_fault_in_a_frame :
    (next (.framingFault 1 .u) { inRun with rx := ⟨.header [], .hunt⟩ }).map (fun t => (t.counts.uMalformed, t.rx.u)) =
      some (1, .hunt) := by decide
theorem test_framing_fault_in_hunt :
    (next (.framingFault 1 .u) inRun).map (fun t => t.counts.uMalformed) = some 0 := by decide
theorem test_length_above_32 :
    (next (.lengthAbove32 1 .d) inRun).map (fun t => t.counts.dMalformed) = some 1 := by decide
theorem test_frame_cut_short :
    (next (.frameCutShort 5 .d) { inRun with rx := ⟨.hunt, .body 0x61 0 3 [1]⟩ }).map
      (fun t => (t.counts.dMalformed, t.rx.d)) = some (1, .hunt) := by decide
theorem test_break_during_a_frame :
    (next (.breakBegin 1 .u) { inRun with rx := ⟨.header [0x1F], .hunt⟩ }).map
      (fun t => (t.counts.uMalformed, t.rx.u)) = some (1, .idleWait) := by decide
theorem test_break_ends :
    (next (.breakEnd 1 .u) { inRun with rx := ⟨.idleWait, .hunt⟩ }).map (fun t => t.rx.u) = some .hunt := by decide
theorem test_crc_fault : (next (.crcFault 1 .u) inRun).map (fun t => t.counts.uCrc) = some 1 := by decide
theorem test_wrong_kind : (next (.wrongKind 1 .d) inRun).map (fun t => t.counts.dMalformed) = some 1 := by decide
theorem test_octet_starts_a_frame :
    (next (.octetSampled 1 .u 0xA5) inRun).map (fun t => t.rx.u) = some (.header []) := by decide
theorem test_last_octet_runs_the_frame :
    (next (.octetSampled 0 .u (octet (crc [0x3F, 0, 0]).toNat))
      { inRun with rx := ⟨.body 0x3F 0 0 [octet ((crc [0x3F, 0, 0]).toNat / 256)], .hunt⟩ }).map
      (fun t => (t.tick.state, t.rx.u)) = some (.closed, .hunt) := by decide +kernel

/-! ## Witnesses: states and operands that meet the hypotheses of the statements, clause by clause -/

/-- 1.1 waits for 1.2 with a PARTNER entry. -/
def waiting17 : State :=
  withChan 17 (fun r => { r with state := .wait, requested := .on })
    { inRun with pendQ := [⟨17, .partner, none, 0, 40⟩] }

/-- 1.1 holds its dwell, due at 1500 µs. -/
def holding17 : State :=
  withChan 17 (fun r => { r with state := .onHold, requested := .off })
    { onSince100 17 inRun with pendQ := [⟨17, .dwell, some 1500, 0, 40⟩] }

/-- 48 unpaired entries, of the channels 0 to 47. -/
def fullTable : List Entry :=
  (List.finRange 48).map fun i => ⟨⟨i.val, by omega⟩, none, 0, 0, none, none, none, .lock⟩

theorem test_witness_GuardTimesOrderedByDifference : (0 : Nat) < 2 ^ 31 ∧ (2 ^ 31 - 1 : Nat) < 2 ^ 31 := by decide

theorem test_witness_DeviceResetAndReleaseReachReset :
    (ResetCause.rstn = .rstn → inRun.supplyLow = false) ∧ (ResetCause.supply = .supply → inRun.rstn = false) := by decide

theorem test_witness_DeviceResetTakesNothing :
    inBothResets.inReset = true ∧ inBothResets.rstn = true ∧ inBothResets.supplyLow = true ∧
      Instr.actsInReset (.tick 0 15 0 []) = false := by decide

theorem test_witness_TimedStatesExpire :
    State.reset.inReset = false ∧ State.reset.startupHold = some 10000 ∧
      reached 10000 (after State.reset.now 10000) = true ∧ reached 10000 (after State.reset.now 9999) = false ∧
    (∀ st ∈ [TickState.closed, .resetting, .grace],
      let s := { inRun with tick := ⟨st, some 2000, 1⟩ }
      s.inReset = false ∧ s.tick.state = st ∧ s.tick.timer = some 2000 ∧
        reached 2000 (after s.now 1000) = true ∧ reached 2000 (after s.now 999) = false) := by decide

theorem test_witness_WakePatternRestartsTheGuard :
    let s := { inShutdown with shutdownFor := 500 }
    s.inReset = false ∧ s.mode = .shutdown ∧ 2000 ≤ s.shutdownFor + 1500 ∧ s.shutdownFor + 1499 < 2000 ∧
      2000 ≤ (2000 : Nat) ∧ (1999 : Nat) < 2000 := by decide

theorem test_witness_ShutdownReceivesNothing :
    inShutdown.inReset = false ∧ inShutdown.mode = .shutdown ∧ Instr.fromLink (.query 3 15 0 [0]) = true ∧
      Instr.fromLink (.octetSampled 3 .d 0) = true := by decide

theorem test_witness_DriveFrameTurnedAway :
    inRun.receives .u ∧ inConfig.receives .u ∧ inSafe.receives .u ∧ inConfig.mode = .config ∧
      4 ≤ (4 : BitVec 4).toNat ∧ 16 < (List.replicate 17 (0 : Byte)).length ∧
      ¬ (([0x81, 0x01] : List Byte).map settingOutput).Nodup ∧ (0x11 : Byte).extractLsb' 4 3 ≠ 0 ∧
      stageOf 3 = some 3 ∧ drivePayloadWellFormed [0x8F] = true := by
  unfold State.receives
  decide

theorem test_witness_SequenceWindowJudgesTheFrame :
    inRun.receives .u ∧ inRun.mode = .run ∧ inSafe.receives .u ∧ inSafe.mode = .safe ∧ stageOf 1 = some 1 ∧
      drivePayloadWellFormed [0x81] = true ∧ State.reset.window.synced = false ∧ inRun.window.synced = true ∧
      [40, 41, 42, 167, 168, 39].map (fun n => (n + 256 - inRun.window.last.toNat) % 256) =
        [0, 1, 2, 127, 128, 255] := by
  unfold State.receives
  decide

theorem test_witness_UnguardedSettingsFollowThePassPolicy :
    inRun.expects 41 ∧ inSafe.expects 41 ∧ stageOf 1 = some 1 ∧ drivePayloadWellFormed [0x87, 0x03] = true ∧
      ([0x87, 0x03] : List Byte).getLast? = some 0x03 ∧
      (∀ b ∈ ([0x87, 0x03] : List Byte),
        inRun.entry (Chan.of 1 (settingOutput b)) = none ∧ inSafe.entry (Chan.of 1 (settingOutput b)) = none) ∧
      inRun.mode = .run ∧ inRun.activeSet.passPolicy = .opened ∧ inSafe.mode = .safe ∧
      (let s := { inRun with activeSet := Settings.powerOn }
      s.expects 41 ∧ s.mode = .run ∧ s.activeSet.passPolicy = .closed) := by
  unfold State.expects State.receives
  decide

theorem test_witness_OnRequestOutcomes :
    inRun.expects 41 ∧ inRun.chan 17 = some (restOf 17) ∧ (restOf 17).state = .off ∧
      (inRun.entry 17).isSome = true ∧ inRun.partnerRequestedOn 17 = false ∧
    (inSafe.expects 41 ∧ (inSafe.chan 17).map ChanRec.state = some .forced) ∧
    ((onSince100 18 inRun).expects 41 ∧ (onSince100 18 inRun).partnerRequestedOn 17 = true ∧
      ((onSince100 18 inRun).chan 17).map ChanRec.state = some .off) ∧
    (waiting17.expects 41 ∧ (waiting17.chan 17).map ChanRec.state = some .wait ∧
      waiting17.partnerRequestedOn 17 = false) ∧
    (holding17.expects 41 ∧ (holding17.chan 17).map ChanRec.state = some .onHold ∧
      holding17.partnerRequestedOn 17 = false) := by
  unfold State.expects State.receives
  decide

/-- The branches of the ON path: unpaired, the partner live, its last OFF unknown, too near, and long past with no
precondition, with a ready output and with one that is not; then the donor held and the target itself live. -/
theorem test_witness_OnRequestOutcomes_path :
    inRun.partner 40 = none ∧ (onSince100 18 inRun).live 18 = true ∧
    (withChan 18 (fun r => { r with lastOff := none }) inRun).live 18 = false ∧
    ((withChan 18 (fun r => { r with lastOff := none }) inRun).chan 18).bind ChanRec.lastOff = none ∧
    hasPassed 998 3 inRun.now = false ∧ hasPassed 997 3 inRun.now = true ∧
    ((inRun.entry 17).bind Entry.precond).isSome = false ∧ ((inRun.entry 4).bind Entry.precond).isSome = true ∧
    inRun.ready 4 = false ∧ inRun.ctx 4 = none ∧ inRun.live 4 = false ∧
    ({ inRun with stages := { inRun.stages with s0 := ⟨.present, 0x30, false, none⟩ } } : State).ready 4 = true ∧
    (withChan 5 (fun r => { r with state := .forced, holds := Holds.none.put .lock true }) inRun).live 5 = false ∧
    (withChan 4 (fun r => { r with effective := .on }) inRun).live 4 = true := by decide

theorem test_witness_OffRequestOutcomes :
    (inSafe.expects 41 ∧ (inSafe.chan 17).map ChanRec.state = some .forced) ∧
    (inRun.expects 41 ∧ (inRun.chan 17).map ChanRec.state = some .off ∧ (inRun.entry 17).isSome = true) ∧
    (waiting17.expects 41 ∧ (waiting17.chan 17).map ChanRec.state = some .wait) ∧
    (holding17.expects 41 ∧ (holding17.chan 17).map ChanRec.state = some .onHold) ∧
    (let s := priming .charging 1 (some 1040)
    s.expects 41 ∧ (s.chan 4).map ChanRec.state = some .priming ∧ (s.chan 5).map ChanRec.state = some .lent ∧
      s.ctx 4 = some (context .charging 1 (some 1040))) ∧
    (let s := priming .settle 1 (some 1002)
    s.expects 41 ∧ (s.chan 4).map ChanRec.state = some .priming ∧ (s.chan 5).map ChanRec.state = some .off) := by
  unfold State.expects State.receives
  decide

/-- A channel in ON: its ON waiting, in transmission, emitted with the dwell just passed, and just not. -/
theorem test_witness_OffRequestOutcomes_on :
    (let s := { onSince100 17 inRun with
      emit := { EmitQueue.empty with sets := [oneSetting 17 .on .normal 0] } }
    s.expects 41 ∧ (s.chan 17).map ChanRec.state = some .on ∧ s.onWaiting 17 = true) ∧
    (let s := { onSince100 17 inRun with
      emit := { EmitQueue.empty with dtx := .sending (.set (oneSetting 17 .on .normal 0)) 3 } }
    s.expects 41 ∧ (s.chan 17).map ChanRec.state = some .on ∧ s.onWaiting 17 = false ∧ s.onSending 17 = true) ∧
    (let s := { onSince100 17 inRun with now := 500 }
    s.expects 41 ∧ (s.chan 17).map ChanRec.onTime = some (some 100) ∧ (inRun.entry 17).map Entry.minDwell = some 500 ∧
      hasPassed 100 500 (after s.now 100) = true ∧ hasPassed 100 500 (after s.now 99) = false) := by
  unfold State.expects State.receives
  decide

theorem test_witness_SameFrameConflictTurnsBothOff :
    inRun.expects 41 ∧ tableLaw inRun.active = true ∧ (inRun.entry 17).bind Entry.partner = some 18 ∧
      (inRun.entry 18).bind Entry.partner = some 17 ∧ (17 : Chan) ≠ 18 ∧ Chan.stage 17 = Chan.stage 18 ∧
    (let u := { inRun with window := ⟨true, 41⟩, eventNo := 1 }
    u.receives .u ∧ u.mode = .run ∧ u.rx.get .u = .hunt ∧ 0 < u.eventNo ∧ stageOf 1 = some 1 ∧
      settingUnusedZero 0x81 = true) := by
  unfold State.expects State.receives
  decide

/-- A frame with two pairs of stage 1 asked ON whole, and an unguarded setting between them. -/
theorem test_witness_SameFrameConflictTurnsBothOff_mixed :
    let w := { inRun with active := [⟨17, some 18, 3, 0, none, none, none, .lock⟩, ⟨18, some 17, 3, 0, none, none, none, .lock⟩,
      ⟨20, some 21, 3, 0, none, none, none, .lock⟩, ⟨21, some 20, 3, 0, none, none, none, .lock⟩] }
    let payload : List Byte := [0x85, 0x82, 0x87, 0x81, 0x84]
    let asked := fun c : Chan => ∃ b ∈ payload, Chan.of 1 (settingOutput b) = c ∧ settingLevel b = .on
    tableLaw w.active = true ∧ drivePayloadWellFormed payload = true ∧ risingIds [17, 20] = true ∧
      (∀ c, c ∈ [17, 20] ↔ ∃ p, c < p ∧ w.partner c = some p ∧ w.partner p = some c ∧ asked c ∧ asked p) := by
  intro w payload asked
  have lower : ∀ c : Chan, (w.partner c).all (fun p => !decide (c < p)) = true ∨ c ∈ [17, 20] := by decide
  refine ⟨by decide, by decide, by decide, fun c => ⟨fun h => ?_, fun ⟨p, hlt, h, _⟩ => ?_⟩⟩
  · rcases List.mem_cons.mp h with rfl | h
    · exact ⟨18, by decide⟩
    · rcases List.mem_singleton.mp h with rfl
      exact ⟨21, by decide⟩
  · simpa [h, hlt] using lower c

theorem test_witness_AuxFrameForwardedOrDropped :
    inRun.receives .u ∧ (List.replicate 32 (0 : Byte)).length ≤ 32 ∧ stageOf 3 = some 3 ∧ 4 ≤ (4 : BitVec 4).toNat ∧
      inRun.emit.closed = false ∧ (List.replicate 3 (⟨0, [], 0, 0⟩ : AuxRec)).length < 4 ∧
      4 ≤ (List.replicate 4 (⟨0, [], 0, 0⟩ : AuxRec)).length := by
  unfold State.receives
  decide

theorem test_witness_TickJudgedByTheMonitorsState :
    inRun.receives .u ∧ inRun.tick.state = .openFirst ∧
    (inSafe.receives .u ∧ inSafe.tick.state = .openFirst ∧ inSafe.mode = .safe ∧ inSafe.causes = ⟨true, false, false⟩) ∧
    (inConfig.receives .u ∧ inConfig.tick.state = .off) ∧ (14 : BitVec 4) ≠ 15 ∧ ([0] : List Byte) ≠ [] := by
  unfold State.receives
  decide

theorem test_witness_StreamFailureEntersSafe :
    (let s := { inRun with tick := ⟨.closed, some 20000, 0⟩, log := logOf 16 }
    s.inReset = false ∧ s.receives .u ∧ s.emit.closed = false ∧ s.recordsLawful = true ∧ s.tick.state = .closed ∧
      s.tick.fails ≠ s.activeSet.failLimit ∧ s.mode = .run) ∧
    (let s := { inSafe with rx := ⟨.idleWait, .hunt⟩ }
    s.inReset = false ∧ s.emit.closed = false ∧ s.recordsLawful = true ∧
      s.tick.state = .openFirst ∧ s.tick.timer = some 70000 ∧
      reached 70000 (after s.now 69000) = true ∧ s.tick.fails ≠ s.activeSet.failLimit ∧ s.mode = .safe) := by
  unfold State.receives
  decide

theorem test_witness_StreamFailureAtTheLimitShutsDown :
    (let s := { inRun with tick := ⟨.closed, some 20000, 3⟩, log := logOf 15 }
    s.inReset = false ∧ s.mode ≠ .shutdown ∧ s.receives .u ∧ s.emit.closed = false ∧ s.recordsLawful = true ∧
      s.tick.state = .closed ∧ s.activeSet.failLimit ≠ 0 ∧ s.tick.fails = s.activeSet.failLimit) ∧
    (let s := { inSafe with tick := ⟨.opened, some 1000, 3⟩, rx := ⟨.idleWait, .hunt⟩ }
    s.inReset = false ∧ s.mode ≠ .shutdown ∧ s.emit.closed = false ∧ s.recordsLawful = true ∧
      s.tick.timer = some 1000 ∧ reached 1000 (after s.now 0) = true ∧ s.tick.fails = s.activeSet.failLimit) := by
  unfold State.receives
  decide

/-- Two records at a log of 15: the first takes the last place, the second is counted; the count stops at 255. -/
theorem test_logged_at_the_capacity :
    ({ inRun with log := logOf 15, overflow := 254 } : State).logged 5 [.streamLate, .streamLimit] =
      (logOf 15 ++ [⟨5, .streamLate⟩], 255) ∧
    (({ inRun with log := logOf 16, overflow := 255 } : State).logged 5 [.streamLimit]).2 = 255 := by decide

theorem test_witness_QueryAndChannelReadAnswer :
    inRun.serves ∧ (40 : Byte).toNat = (40 : Chan).val ∧ inRun.chan 40 = some (restOf 40) ∧
    (let w := (priming .charging 3 (some 1040)).arrived 0 .u
    (w.ctxWith 5).all fun x => decide (x.attempt ≤ 7 ∧ x.attemptLimit ≤ 7 ∧ x.chargeTime % 10 = 0 ∧
      x.chargeTime ≤ 2000 ∧ x.deadTime ≤ 1023)) ∧
    (let s := { inRun with
      log := logOf 16
      pendQ := List.replicate 48 ⟨17, .partner, none, 0, 40⟩
      emit := { EmitQueue.empty with
        sets := List.replicate 8 (SetRec.atRelease 0), auxs := List.replicate 4 ⟨0, [], 0, 0⟩ } }
    s.serves ∧ s.pendQ.length ≤ 48 ∧ s.emit.sets.length ≤ 8 ∧ s.emit.auxs.length ≤ 4 ∧ s.log.length ≤ 16) := by
  unfold State.serves State.receives
  decide

theorem test_witness_TableAndSettingsReadsAnswer :
    inRun.serves ∧ 63 < (64 : Byte).toNat ∧ (63 : Byte).toNat = (63 : Chan).val ∧ findEntry 63 inRun.staging = none ∧
      (findEntry 4 inRun.active).isSome = true ∧ (2 : Byte) ≠ 0 ∧ (2 : Byte) ≠ 1 := by
  unfold State.serves State.receives
  decide

theorem test_witness_StagingEditsAreCarriedOut :
    let full := { inRun with staging := fullTable }
    full.serves ∧ (decodeEntry [63, 255, 0, 0, 0, 0, 0, 0, 0, 0, 0, 0]).map Entry.id = some 63 ∧
      findEntry 63 full.staging = none ∧ 48 ≤ full.staging.length ∧ findEntry 47 full.staging ≠ none ∧
      inRun.serves ∧ inRun.staging.length < 48 ∧ findEntry 4 inRun.staging ≠ none ∧ (4 : Byte).toNat = (4 : Chan).val ∧
      (decodeSettings [0, 0, 50, 10, 0, 10, 0, 0, 0, 100, 100, 0]).isSome = true := by
  unfold State.serves State.receives
  decide

theorem test_witness_DiscardMakesTheSidesEqual :
    inRun.serves ∧ (step State.reset = .next State.reset ∧
      (State.reset.committed = false → State.reset.active = [] ∧ State.reset.activeSet = Settings.powerOn)) := by
  refine ⟨?_, rfl, by decide⟩
  unfold State.serves State.receives
  decide

theorem test_witness_StagingSideHasNoEffect :
    Instr.meetsStaging (.tick 1 15 0 []) = false ∧ Instr.meetsStaging (.start 1 15 0 []) = false ∧
      (next (.start 1 15 0 []) inConfig).isSome = true := by decide

theorem test_witness_RequestsRefusedForTheirForm :
    inRun.serves ∧ 3 < (4 : Byte).toNat ∧ 63 < (64 : Byte).toNat ∧ (63 : Byte).toNat = (63 : Chan).val ∧
      inRun.chan 63 = none ∧ findEntry 63 inRun.staging = none ∧ 4 < (5 : Byte).toNat ∧
      decodeEntry (List.replicate 12 255) = none ∧ decodeSettings (List.replicate 12 255) = none ∧
      Instr.mgmt (.query 0 14 1 []) = some (14, ⟨1, 1, []⟩) ∧
      Instr.mgmt (.unknownRequest 0 15 1 [15]) = some (15, ⟨1, 15, []⟩) ∧
      Instr.mgmt (.logRead 0 15 1 [1, 2]) = some (15, ⟨1, 14, [1, 2]⟩) ∧ [1, 2].length ≠ argumentLength 14 := by
  unfold State.serves State.receives
  decide

theorem test_witness_BusyHandlerAnswersBusy :
    let s := { inRun with handler := .working ⟨1, 8, []⟩ 1017 }
    s.receives .u ∧ s.handler ≠ .idle ∧ Instr.mgmt (.stop 0 15 2 []) = some (15, ⟨2, 11, []⟩) := by
  unfold State.receives
  decide

theorem test_witness_CommitTakenWhereTheModePermits :
    inConfig.receives .u ∧ inConfig.handler = .idle ∧ inConfig.mode = .config ∧
    (inRun.receives .u ∧ inRun.activeSet.commitInRun = true ∧ inRun.stagingSet = inRun.activeSet) ∧
    (let s := { inSafe with stagingSet := Settings.powerOn, upQ := List.replicate 8 aReport }
    s.receives .u ∧ s.handler = .idle ∧ s.mode ≠ .config ∧ s.stagingSet ≠ s.activeSet) := by
  unfold State.receives
  decide

theorem test_witness_ValidationWalksInOrder :
    (validate inConfig).failure = none ∧ (validate inConfig).examined = 5 ∧
    (let s := { inConfig with staging := table.map fun e => if e.id = 18 then { e with deadTime := 4 } else e }
    (validate s).failure = some (17, .deadMismatch) ∧ (validate s).examined = 3) := by decide

/-- The walk passes the pair 0.4 and 0.5 and stops at 1.1, whose partner has another dead time. -/
theorem test_witness_ValidationWalksInOrder_first :
    let copy := table.map fun e => if e.id = 18 then { e with deadTime := 4 } else e
    let e : Entry := ⟨17, some 18, 3, 500, none, none, none, .lock⟩
    copy = copy.take 2 ++ e :: copy.drop 3 ∧ (∀ x ∈ copy.take 2, ∀ k, ¬ x.fails copy k) ∧ ¬ (∀ k, ¬ e.fails copy k) := by
  refine ⟨by decide, fun x hx => (checkEntry_none_iff _ _).mp ?_, fun h => ?_⟩
  · revert x
    decide
  · exact absurd ((checkEntry_none_iff _ _).mpr h) (by decide)

theorem test_witness_ValidationCompletionEndsTheCommit :
    (let s := { inConfig with handler := .working ⟨1, 8, []⟩ 1017 }
    s.inReset = false ∧ reached 1017 (after s.now 17) = true ∧ (validate s).failure = none ∧
      tableLaw s.staging = true ∧ tableLaw s.active = true ∧ s.recordsMatchTable = true) ∧
    (let s := { inConfig with handler := .working ⟨1, 8, []⟩ 1002, staging := table.drop 1 }
    reached 1002 (after s.now 2) = true ∧ (validate s).failure = some (5, .partnerMissing)) := by decide

/-- No channel in CONFIG fails the install check; in RUN 1.1 in ON fails it when its partner goes, 0.4 and 0.5 before it
do not. -/
theorem test_witness_ValidationCompletionEndsTheCommit_live :
    (∀ e ∈ inConfig.active, ¬ inConfig.failsInstall e) ∧
    (let s := { onSince100 17 inRun with
      handler := .working ⟨1, 8, []⟩ 1017
      staging := table.map fun e => if Chan.stage e.id = 1 then { e with partner := none } else e }
    let e : Entry := ⟨17, some 18, 3, 500, none, none, none, .lock⟩
    (validate s).failure = none ∧ s.active = table.take 2 ++ e :: table.drop 3 ∧
      (∀ x ∈ table.take 2, ¬ s.failsInstall x) ∧ s.failsInstall e) := by
  refine ⟨fun e he => (passesInstall_iff _ _).mp ?_, by decide, by decide,
    fun x hx => (passesInstall_iff _ _).mp ?_, not_not.mp fun h => ?_⟩
  · revert e
    decide
  · revert x
    decide
  · exact absurd ((passesInstall_iff _ _).mpr h) (by decide)

/-- In CONFIG: 2.8 released and 2.9 adopted, its stage still USED. -/
theorem test_witness_InstallAdoptsAndReleases :
    let s := { inConfig with
      handler := .working ⟨1, 8, []⟩ 1017
      staging := table.take 4 ++ [⟨41, none, 0, 0, none, none, none, .lock⟩] }
    s.inReset = false ∧ s.mode ≠ .shutdown ∧ reached 1017 (after s.now 17) = true ∧ s.upQ.length < 8 ∧
      s.emit.closed = false ∧ s.emit.tidy = true ∧ (validate s).failure = none ∧
      (∀ e ∈ s.active, passesInstall s e = true) ∧ tableLaw s.staging = true ∧
      tableLaw s.active = true ∧ s.recordsMatchTable = true ∧
      (next (.validationCompletion 17) s).map State.guarded = some [4, 5, 17, 18, 41] := by decide

/-- In RUN, with zone 1 BLOCKED: 0.4 and 0.5 get zone 1 and so ZONE, 2.8 leaves it, 3.1 is adopted without a hold and
stage 3 becomes USED. -/
theorem test_witness_InstallAdoptsAndReleases_run :
    let blocked : Holds := Holds.none.put .zone true
    let s := withChan 40 (fun r => { r with state := .forced, holds := blocked }) { inRun with
      handler := .working ⟨1, 8, []⟩ 1017
      zones := ⟨inRun.zones.z0, ⟨false, false, none, .blocked .timeout, none⟩⟩
      staging := (table.map fun e => if e.id = 40 then { e with zone := some 0 }
        else if Chan.stage e.id = 0 then { e with zone := some 1 } else e) ++ [⟨49, none, 0, 0, none, none, none, .lock⟩] }
    s.inReset = false ∧ s.mode = .run ∧ s.emit.closed = false ∧ s.emit.tidy = true ∧ (validate s).failure = none ∧
      (∀ e ∈ s.active, passesInstall s e = true) ∧ tableLaw s.staging = true ∧ s.recordsMatchTable = true ∧
      (next (.validationCompletion 17) s).map (fun t =>
        (t.chans.map fun r => (r.state, r.holds), t.stages.s3, t.emit.sets.map fun r => (r.cls, r.settings))) =
      some ([(.forced, blocked), (.forced, blocked), (.off, Holds.none), (.off, Holds.none), (.off, Holds.none),
        (.off, Holds.none)], ⟨.silent, 0, false, some 6017⟩, [(.normal, [⟨1, .off⟩])]) := by decide

theorem test_witness_StartTakesTheGuardToRun :
    inRun.serves ∧ inRun.mode ≠ .config ∧ (State.reset.serves ∧ State.reset.mode = .config ∧
      State.reset.committed = false) ∧
    (inConfig.serves ∧ inConfig.mode = .config ∧ inConfig.committed = true ∧ inConfig.modeHoldsKept = true ∧
      inConfig.recordsLawful = true ∧ (∀ z, (inConfig.zones.get z).state = .inactive) ∧
      ∀ st, (inConfig.stages.get st).presence ≠ .lost) := by
  unfold State.serves State.receives
  decide

theorem test_witness_StopTakesTheGuardToConfig :
    inConfig.serves ∧ inConfig.mode = .config ∧
    (inRun.serves ∧ inRun.mode = .run ∧ inRun.emit.closed = false ∧ inRun.recordsLawful = true ∧
      inRun.zoneHoldsMatch = true ∧ inRun.stageHoldsMatch = true) ∧
    (inSafe.serves ∧ inSafe.mode = .safe ∧ inSafe.emit.closed = false ∧ inSafe.recordsLawful = true ∧
      inSafe.zoneHoldsMatch = true ∧ inSafe.stageHoldsMatch = true) := by
  unfold State.serves State.receives
  decide

/-- STOP with zone 1 BLOCKED and stage 1 LOST: the ZONE and STAGE holds go, a LOCK stays. -/
theorem test_stop_clears_zone_and_stage_holds :
    let held := fun k : HoldKind => fun r : ChanRec => ({ r with state := .forced, holds := Holds.none.put k true } : ChanRec)
    let s := withChan 40 (held .zone) (withChan 17 (held .stage) (withChan 18 (held .stage) (withChan 4 (held .lock)
      { inRun with
        zones := ⟨inRun.zones.z0, ⟨false, false, none, .blocked .timeout, none⟩⟩
        stages := { inRun.stages with s1 := ⟨.lost, 0, false, none⟩ } })))
    s.zoneHoldsMatch = true ∧ s.stageHoldsMatch = true ∧ s.recordsLawful = true ∧
      (next (.stop 0 15 1 []) s).map (fun t => t.chans.map ChanRec.holds) =
        some (⟨true, false, false, false, true⟩ :: List.replicate 4 ⟨true, false, false, false, false⟩) := by decide

theorem test_witness_SafeAndResumeMoveTheCauses :
    (inConfig.serves ∧ inConfig.mode = .config) ∧ (inSafe.serves ∧ inSafe.mode = .safe) ∧
    (inRun.serves ∧ inRun.mode = .run ∧ inRun.emit.closed = false ∧ inRun.recordsLawful = true) ∧
    (let s := { inSafe with causes := ⟨false, true, false⟩ }
    s.serves ∧ s.mode = .safe ∧ s.causes.stream = false) := by
  unfold State.serves State.receives
  decide

/-- With eight frames queued a completion installs, and its OK waits in REPLYING. -/
theorem test_install_while_the_answer_waits :
    (next (.validationCompletion 17) { inConfig with
      handler := .working ⟨1, 8, []⟩ 1017, committed := false, upQ := List.replicate 8 aReport }).map
        (fun t => (t.committed, t.handler, t.upQ.length)) =
      some (true, .replying ⟨1, 8, []⟩ ⟨.ok, [], 0⟩, 8) := by decide

/-- Requests that meet a full Upstream Queue: START in CONFIG, a LOG-READ of 0, and a COMMIT that SAFE does not permit. -/
theorem test_witness_LogReadCarriesTheOldestRecords_full :
    (let s := { inConfig with upQ := List.replicate 8 aReport }
    s.receives .u ∧ s.handler = .idle ∧ 8 ≤ s.upQ.length ∧ Instr.mgmt (.start 0 15 1 []) = some (15, ⟨1, 10, []⟩) ∧
      (⟨1, 10, []⟩ : Request).endsAtOnce s ∧ ¬ (⟨1, 10, []⟩ : Request).takesRecords ∧
      Instr.mgmt (.logRead 0 15 1 [0]) = some (15, ⟨1, 14, [0]⟩) ∧ (⟨1, 14, [0]⟩ : Request).endsAtOnce s ∧
      ¬ (⟨1, 14, [0]⟩ : Request).takesRecords) ∧
    (let s := { inSafe with stagingSet := Settings.powerOn, upQ := List.replicate 8 aReport }
    s.receives .u ∧ Instr.mgmt (.commit 0 15 1 []) = some (15, ⟨1, 8, []⟩) ∧
      (⟨1, 8, []⟩ : Request).endsAtOnce s ∧ ¬ (⟨1, 8, []⟩ : Request).takesRecords) := by
  have zero : ¬ (⟨1, 14, [0]⟩ : Request).takesRecords := by
    rintro ⟨-, n, h, h1, -⟩
    obtain rfl : (0 : Byte) = n := by simpa using h
    exact absurd h1 (by decide)
  have other : ∀ name : Byte, name ≠ 14 → ¬ (⟨1, name, []⟩ : Request).takesRecords := fun _ h k => h k.1
  unfold State.receives
  refine ⟨⟨by decide, by decide, by decide, by decide, ?_, other 10 (by decide), by decide, ?_, zero⟩,
    by decide, by decide, ?_, other 8 (by decide)⟩ <;> unfold Request.endsAtOnce <;> decide

theorem test_witness_LogReadCarriesTheOldestRecords :
    (let s := { inRun with log := logOf 16, upQ := List.replicate 7 aReport }
    s.receives .u ∧ s.handler = .idle ∧ s.upQ.length < 8) ∧
    (let s := { inRun with log := logOf 1, upQ := List.replicate 8 aReport }
    s.receives .u ∧ s.handler = .idle ∧ 8 ≤ s.upQ.length) ∧ 1 ≤ (1 : Byte).toNat ∧ (4 : Byte).toNat ≤ 4 ∧
    faultOctets ⟨1, .chargeFail 17 7⟩ = [7, 0, 0, 0, 1, 17, 0x1F, 7] := by
  unfold State.receives
  decide

theorem test_witness_ReportUpdatesTheStageRecord :
    inRun.receives .d ∧ 4 ≤ (4 : BitVec 4).toNat ∧ ([0, 6] : List Byte).length ≠ 3 ∧ stageOf 0 = some 0 ∧
    (let s := { inRun with stages := { inRun.stages with s0 := ⟨.present, 0x30, false, some 5000⟩ } }
    let old := s.stages.get 0
    let new : StageRec := ⟨.present, 0x20, false, some 6000⟩
    old.holdsOff = new.holdsOff ∧ (new.fault = true → old.fault = true) ∧
      ∀ e ∈ s.active, Chan.stage e.id = 0 → e.precond ≠ none →
        old.mask.getLsbD (Chan.output e.id).val = true → new.mask.getLsbD (Chan.output e.id).val = false →
        ∀ r ∈ s.chan e.id, r.state ≠ .on) := by
  unfold State.receives
  decide

theorem test_witness_FallingReadyBitRecharges :
    let s := onSince100 4 { inRun with stages := { inRun.stages with s0 := ⟨.present, 0x30, false, none⟩ } }
    s.receives .d ∧ s.mode = .run ∧ s.emit.closed = false ∧ s.upQ.length < 8 ∧ stageOf 0 = some 0 ∧
      (s.stages.get 0).presence ≠ .lost ∧ (s.stages.get 0).fault = false ∧ (0 : Byte).getLsbD 0 = false ∧
      s.entry 4 = table.head? ∧ (s.entry 4).map (fun e => (e.partner, e.precond)) = some (some 5, some ⟨40, 3⟩) ∧
      (s.chan 4).map ChanRec.state = some .on ∧ (s.chan 5).map (fun r => r.holds.isEmpty) = some true ∧ s.ctx 4 = none ∧
      (s.active.filter fun x => Chan.stage x.id == 0 && x.precond.isSome &&
        (s.stages.get 0).mask.getLsbD (Chan.output x.id).val &&
        !((0 : Byte) ++ (0x20 : Byte)).getLsbD (Chan.output x.id).val) = table.take 1 ∧
    (let u := withChan 5 (fun r => { r with state := .forced, holds := Holds.none.put .lock true }) s
    u.receives .d ∧ (u.chan 4).map ChanRec.state = some .on ∧ (u.chan 5).map (fun r => r.holds.isEmpty) = some false) := by
  unfold State.receives
  decide

/-- Two targets of stage 0 in ON, both of whose bits fall. -/
theorem test_witness_FallingReadyBitRecharges_two :
    let pairs : List Entry := [⟨4, some 5, 2, 0, none, none, some ⟨40, 3⟩, .lock⟩, ⟨5, some 4, 2, 0, none, none, none, .lock⟩,
      ⟨6, some 7, 2, 0, none, none, some ⟨20, 1⟩, .lock⟩, ⟨7, some 6, 2, 0, none, none, none, .lock⟩]
    let s := onSince100 4 (onSince100 6 { inRun with
      active := pairs, chans := pairs.map (restOf ·.id), stages := { inRun.stages with s0 := ⟨.present, 0xF0, false, none⟩ } })
    s.receives .d ∧ tableLaw s.active = true ∧ s.ctxs = [] ∧ (∀ r ∈ s.chans, r.holds.isEmpty = true) ∧
      (next (.report 0 0 9 [0, 0xA0, 0]) s).map (fun t =>
        (t.counts.recharge, t.chans.map ChanRec.state, t.ctxs.map Ctx.target, t.emit.sets.map SetRec.settings)) =
      some (2, [.priming, .off, .priming, .off], [4, 6], [[⟨4, .off⟩, ⟨6, .off⟩]]) := by
  unfold State.receives
  decide

theorem test_witness_StageHoldFollowsLossAndFault :
    let held := fun s : State =>
      { s with
        chans := inRun.chans.map fun (r : ChanRec) =>
          if Chan.stage r.id = 1 then { r with state := .forced, holds := Holds.none.put .stage true } else r }
    (let s := { inRun with log := logOf 16 }
    s.inReset = false ∧ (s.stages.get 1).timer = some 5000 ∧ reached 5000 (after s.now 4000) = true ∧
      (s.stages.get 1).holdsOff = false ∧ s.recordsLawful = true) ∧
    (let s := held { inRun with stages := { inRun.stages with s1 := ⟨.present, 6, true, some 5000⟩ } }
    (s.stages.get 1).timer = some 5000 ∧ (s.stages.get 1).holdsOff = true ∧ s.recordsLawful = true ∧
      ∀ r ∈ s.chans, Chan.stage r.id = 1 → r.holds.stage = true) ∧
    (inRun.receives .d ∧ stageOf 1 = some 1 ∧ inRun.recordsLawful = true ∧ (inRun.stages.get 1).holdsOff = false ∧
      (inRun.stages.get 1).fault = false ∧ (1 : Byte).getLsbD 0 = true) ∧
    (let s := held { inRun with stages := { inRun.stages with s1 := ⟨.lost, 0, false, none⟩ } }
    s.receives .d ∧ s.recordsLawful = true ∧ (s.stages.get 1).holdsOff = true ∧ (s.stages.get 1).fault = false ∧
      (s.stages.get 1).presence = .lost ∧ (0xFE : Byte).getLsbD 0 = false ∧
      s.mode ≠ .config ∧ ∀ r ∈ s.chans, Chan.stage r.id = 1 → r.holds.stage = true) := by
  unfold State.receives
  decide

theorem test_witness_ZoneMonitorsFollowTheirLines :
    inRun.inReset = false ∧ inRun.mode ≠ .shutdown ∧
    (let s := { inRun with zones := { inRun.zones with z0 := ⟨false, true, some 990, .released, none⟩ } }
    (s.zones.get 0).measuring = some 990 ∧ hasPassed 990 10 (after s.now 0) = true ∧
      (s.zones.get 0).state.isBlocked = false ∧ s.activeSet.zoneMode.get 0 = .direct ∧ s.recordsLawful = true) ∧
    (let s := { inRun with zones := { inRun.zones with z1 := ⟨true, false, some 991, .blocked .notYet, none⟩ } }
    (s.zones.get 1).measuring = some 991 ∧ hasPassed 991 10 (after s.now 0) = false ∧
      hasPassed 991 10 (after s.now 1) = true ∧ (s.zones.get 1).state.isBlocked = true) ∧
    ((inRun.zones.get 1).state = .released ∧ (inRun.zones.get 1).timer = some 6000 ∧
      reached 6000 (after inRun.now 5000) = true ∧ inRun.recordsLawful = true) := by decide

theorem test_witness_EntriesAndOnTimersFallDue :
    (let s := { waiting17 with pendQ := [⟨17, .dead, some 1003, 0, 40⟩] }
    s.inReset = false ∧ reached 1003 (after s.now 3) = true ∧ (s.entry 17).isSome = true) ∧
    (holding17.inReset = false ∧ holding17.pendQ = [⟨17, .dwell, some 1500, 0, 40⟩] ∧
      reached 1500 (after holding17.now 500) = true) ∧
    (∀ st ∈ [ChState.on, .onHold],
      let s := withChan 40 (fun r => { r with state := st, onTimer := some 20100 }) (onSince100 40 inRun)
      (s.chan 40).map (fun r => (r.state, r.onTimer)) = some (st, some 20100) ∧
        reached 20100 (after s.now 19100) = true) := by decide

theorem test_witness_ChargePhaseTimersExpire :
    (let s := withChan 4 (fun r => { r with lastOff := some 1000 }) (priming .clearing 1 (some 1002))
    s.inReset = false ∧ s.ctx 4 = some (context .clearing 1 (some 1002)) ∧ reached 1002 (after s.now 2) = true ∧
      ¬ (s.live 4 ∨ s.offOnItsWay 4) ∧ (s.chan 4).bind ChanRec.lastOff = some 1000 ∧
      hasPassed 1000 2 (after s.now 2) = true) ∧
    (let s := withChan 4 (fun r => { r with effective := .on }) (priming .clearing 1 (some 1002))
    s.live 4 = true) ∧
    (let s := priming .charging 1 (some 1040)
    s.ctx 4 = some (context .charging 1 (some 1040)) ∧ reached 1040 (after s.now 40) = true) ∧
    (let s := { priming .settle 1 (some 1002) with stages := { inRun.stages with s0 := ⟨.present, 0x30, false, none⟩ } }
    s.ctx 4 = some (context .settle 1 (some 1002)) ∧ s.ready 4 = true) ∧
    (let s := priming .settle 2 (some 1002)
    s.ready 4 = false ∧ (context .settle 2 (some 1002)).attempt < (context .settle 2 (some 1002)).attemptLimit ∧
      ¬ (s.live 4 ∨ s.offOnItsWay 4) ∧ (s.chan 4).bind ChanRec.lastOff = some 0 ∧
      hasPassed 0 2 (after s.now 2) = true) ∧
    (let s := priming .settle 3 (some 1002)
    s.ready 4 = false ∧ (context .settle 3 (some 1002)).attemptLimit ≤ (context .settle 3 (some 1002)).attempt ∧
      (s.entry 4).map Entry.policy = some .lock) ∧
    (let s := { priming .settle 3 (some 1002) with active := table.map fun (e : Entry) => { e with policy := .safe } }
    s.ready 4 = false ∧ (s.entry 4).map Entry.policy = some .safe) := by decide

theorem test_witness_HoldsForceAndReleaseChannels :
    (inRun.chan 17 = some (restOf 17) ∧ (restOf 17).holds.isEmpty = true) ∧
    ((inSafe.chan 17).map (fun r => (r.holds.isEmpty, r.holds.has .safe, r.holds.has .zone)) =
      some (false, true, false)) ∧ (18 : Chan) ≠ 17 ∧
    (State.reset.emit.tidy = true ∧ State.reset.emit.closed = false ∧ inShutdown.emit.tidy = true ∧
      inShutdown.emit.closed = true) ∧
    (let q := { EmitQueue.empty with sets := [oneSetting 17 .on .normal 0, { oneSetting 17 .off .urgent 1 with
      settings := [⟨2, .off⟩] }] }
    q.tidy = true ∧ (q.recordOf 1 .normal).isSome = true ∧ (q.recordOf 1 .urgent).isSome = true ∧
      q.recordOf 2 .normal = none) := by decide

theorem test_witness_ArbiterChoosesTheOldest :
    let s := { inRun with emit := { EmitQueue.empty with
      sets := [oneSetting 17 .on .normal 0, oneSetting 4 .off .urgent 1]
      auxs := [⟨1, [], 950, 2⟩] } }
    s.inReset = false ∧ s.emit.dtx = .idle ∧ s.emit.sets ≠ [] ∧ s.emit.auxs ≠ [] ∧
      ∀ r ∈ s.emit.sets.map EmitRec.set ++ s.emit.auxs.map EmitRec.aux, elapsed r.age (after s.now 0) < 2 ^ 31 := by decide

/-- A record of all sixteen outputs, the most there are, is chosen and sent as a DRIVE frame of stage 1. -/
theorem test_witness_ArbiterChoosesTheOldest_drive :
    let r : SetRec := ⟨1, .normal, false, (List.finRange 16).map fun o => ⟨o, .on⟩, 900, 0⟩
    let s := { inRun with emit := { EmitQueue.empty with sets := [r], dseq := 7 } }
    s.inReset = false ∧ s.emit.dtx = .idle ∧ s.emit.tidy = true ∧ r.quench = false ∧
      (next (.arbiterChoice 0) s).map (fun t => t.emit.dtx) = some (.sending (.set r) 7) ∧ r.settings.length = 16 := by
  decide

theorem test_witness_DownstreamSequenceCountsChoices :
    (next (.arbiterChoice 0) State.reset).map (fun t => t.emit.dseq) = some 1 ∧
      (next (.deviceReset 0 .rstn) inRun).isSome = true ∧ (next (.wakeRestart 4000 3000) inShutdown).isSome = true ∧
      (next (.resetRelease 0 .rstn) inBothResets).isSome = true ∧ (next (.dPortGapEnd 0) inRun).isSome = true := by decide

theorem test_witness_EmissionCompletionUpdatesTheRecords :
    let s := { inRun with emit := { EmitQueue.empty with dtx := .sending (.set (oneSetting 17 .on .normal 0)) 20 } }
    s.inReset = false ∧ s.emit.dtx = .sending (.set (oneSetting 17 .on .normal 0)) 20 ∧
      (EmitRec.set (oneSetting 17 .on .normal 0)).level 17 = some .on ∧
      (EmitRec.set (SetRec.atRelease 1)).level 17 = some .off ∧ (EmitRec.aux ⟨1, [], 0, 0⟩).level 17 = none := by decide

/-- ON emitted for 2.8: in ON with its on-timer to start, in ON with it overdue, in another state. -/
theorem test_witness_EmissionConsequences :
    let sent := fun (c : Chan) (v : Level) (s : State) => { s with
      emit := { EmitQueue.empty with dtx := .sending (.set (oneSetting c v .normal 0)) 20 } }
    let s := sent 40 .on (withChan 40 (fun r => { r with state := .on, requested := .on }) inRun)
    s.inReset = false ∧ s.recordsMatchTable = true ∧ tableLaw s.active = true ∧ s.activeValid = true ∧
      s.ctxWith 40 = none ∧ (s.entry 40).bind Entry.maxOn = some 20 ∧
      (s.chan 40).map (fun r => (r.state, r.onTime, r.onTimer)) = some (.on, none, none) ∧
      (EmitRec.set (oneSetting 40 .on .normal 0)).level 40 = some .on ∧
      (∀ d, d ≠ 40 → (EmitRec.set (oneSetting 40 .on .normal 0)).level d = none) ∧
      reached (after 100 20000) (after s.now 0) = false ∧ reached (after 100 20000) (after s.now 19100) = true ∧
    (let u := withChan 40 (fun r => { r with state := .on, requested := .on, effective := .on, onTime := some 100 }) s
    (u.chan 40).map (fun r => (r.state, r.onTime, r.onTimer)) = some (.on, some 100, none)) ∧
    ((inRun.chan 40).map ChanRec.state = some .off) := by decide

/-- ON emitted for 1.1 in ON_HOLD, its DWELL entry undated or dated; OFF emitted for 1.2 with 1.1 waiting, with a dead
time of 3 µs and of 0; and with none waiting. -/
theorem test_witness_EmissionConsequences_entries :
    (let s := withChan 17 (fun r => { r with state := .onHold }) { inRun with pendQ := [⟨17, .dwell, none, 0, 21⟩] }
    s.recordsMatchTable = true ∧ s.ctxWith 17 = none ∧ (s.chan 17).map ChanRec.onTime = some none ∧
      (s.entry 17).map (fun e => (e.maxOn, e.minDwell)) = some (none, 500) ∧ s.pend 17 = some ⟨17, .dwell, none, 0, 21⟩ ∧
      reached (after (after s.now 5) 500) (after s.now 5) = false ∧ reached (after 100 500) (after s.now 0) = true) ∧
    (holding17.pend 17 = some ⟨17, .dwell, some 1500, 0, 40⟩ ∧ (holding17.chan 17).map ChanRec.state = some .onHold) ∧
    ((waiting17.entry 18).bind Entry.partner = some 17 ∧ waiting17.pend 17 = some ⟨17, .partner, none, 0, 40⟩ ∧
      (waiting17.entry 17).map Entry.deadTime = some 3 ∧ waiting17.recordsMatchTable = true) ∧
    (let s := { waiting17 with active := table.map fun (e : Entry) => if Chan.stage e.id = 1 then { e with deadTime := 0 } else e }
    (s.entry 17).map Entry.deadTime = some 0 ∧ s.activeValid = true ∧ s.recordsMatchTable = true) ∧
    (inRun.partner 18 = some 17 ∧ inRun.pend 17 = none) := by decide

/-- A frame for the context of 0.4 and 0.5 in each phase that takes one. -/
theorem test_witness_EmissionConsequences_contexts :
    (∀ p ∈ [Phase.clearing, .donorOn, .charging, .donorOff, .settle],
      let s := priming p 1 none
      s.recordsMatchTable = true ∧ s.activeValid = true ∧ s.ctx 4 = some (context p 1 none) ∧
        (s.ctxs.map Ctx.target).Nodup ∧ (context p 1 none).deadTime ≤ 1023 ∧ (context p 1 none).deadTime ≠ 0 ∧
        s.ctxs = [context p 1 none] ∧ (∀ r ∈ s.chans, r.state ≠ .on ∧ r.state ≠ .onHold) ∧ s.pendQ = []) ∧
    (EmitRec.set (oneSetting 4 .off .normal 0)).level 4 = some .off ∧
    (EmitRec.set (oneSetting 5 .on .normal 0)).level 5 = some .on ∧
    (EmitRec.set (SetRec.atRelease 0)).level 5 = some .off ∧
    (let s := { inRun with ctxs := [{ context .donorOff 1 none with deadTime := 0 }] }
    (s.ctx 4).map Ctx.deadTime = some 0) := by decide

theorem test_witness_QuenchRecordSentAsQuenchFrame :
    let s := { inRun with emit := { EmitQueue.empty with dtx := .sending (.set (SetRec.atRelease 1)) 7 } }
    s.inReset = false ∧ (SetRec.atRelease 1).quench = true ∧ s.dFrame = some ⟨.quench, 1, 7, []⟩ ∧
      (next (.emissionCompletion 0) s).isSome = true := by decide

theorem test_witness_AuxRecordSentAsAuxFrame :
    let s := { inRun with emit := { EmitQueue.empty with auxs := [⟨1, [1, 2], 950, 2⟩], dseq := 255 } }
    s.inReset = false ∧ s.emit.dtx = .idle ∧
      (next (.arbiterChoice 0) s).map (fun t => t.emit.dtx) = some (.sending (.aux ⟨1, [1, 2], 950, 2⟩) 255) := by decide

theorem test_witness_TransmittersMoveOn :
    ({ inRun with emit := { EmitQueue.empty with dtx := .gap } } : State).emit.dtx = .gap ∧ inRun.inReset = false ∧
    (let s := { inRun with upQ := [aReport] }
    s.utx = .idle ∧ s.upQ = aReport :: [] ∧ s.handler = .idle) ∧
    (let s := { inRun with upQ := [aReport], handler := .replying ⟨1, 14, [4]⟩ ⟨.ok, [], 0⟩ }
    s.utx = .idle ∧ s.handler = .replying ⟨1, 14, [4]⟩ ⟨.ok, [], 0⟩) ∧
    ({ inRun with utx := .sending aReport } : State).utx = .sending aReport ∧
    ({ inRun with utx := .gap } : State).utx = .gap := by decide

theorem test_witness_ReceiverFaultsCountOnce :
    inRun.inReset = false ∧ inRun.mode ≠ .shutdown ∧ (inRun.rx.get .u).inProgress = false ∧ inRun.rx.get .u ≠ .idleWait ∧
    (let s := { inRun with rx := ⟨.header [], .idleWait⟩ }
    (s.rx.get .u).inProgress = true ∧ s.rx.get .d = .idleWait) := by decide

/-- Complete frames of one payload octet: kind codes 0, 8 and 15, and RESP at the U-port and QUENCH at the D-port, each
with a right check; the first with a wrong one. -/
theorem test_witness_OctetsMakeTheFrame_checked :
    (1 : Nat) = (1 : Byte).toNat ∧
    ({ inRun with rx := ⟨.hunt, .body 0x00 1 1 [9, 17]⟩ } : State).rx.get .d = .body 0x00 1 1 ([9] ++ [17]) ∧
    crc [0x00, 1, 1, 9] ≠ (17 : Byte) ++ (231 : Byte) ∧
    crc [0x00, 1, 1, 9] = (17 : Byte) ++ (232 : Byte) ∧ (0x00 : Byte).extractLsb' 4 4 = 0 ∧
    crc [0x8F, 1, 1, 9] = (24 : Byte) ++ (62 : Byte) ∧ ((0x8F : Byte).extractLsb' 4 4).toNat = 8 ∧
    crc [0xFF, 1, 1, 9] = (90 : Byte) ++ (75 : Byte) ∧ ((0xFF : Byte).extractLsb' 4 4).toNat = 15 ∧
    crc [0x5F, 1, 1, 9] = (176 : Byte) ++ (61 : Byte) ∧ kindCode .resp = (0x5F : Byte).extractLsb' 4 4 ∧
    receivedAt .u .resp = false ∧
    crc [0x7F, 1, 1, 9] = (135 : Byte) ++ (115 : Byte) ∧ kindCode .quench = (0x7F : Byte).extractLsb' 4 4 ∧
    receivedAt .d .quench = false := by decide +kernel

theorem test_witness_OctetsMakeTheFrame :
    inRun.receives .u ∧ inRun.rx.get .u = .hunt ∧ (List.replicate 32 (0 : Byte)).length ≤ 32 ∧
      Instr.mgmt (.query 0 15 1 [3]) = some (15, ⟨1, 1, [3]⟩) ∧ inRun.inReset = false ∧ inRun.mode ≠ .shutdown ∧
    (let s := { inRun with rx := ⟨.header [0x1F, 0], .body 0x60 0 3 [1, 2, 3]⟩ }
    s.rx.get .u = .header [0x1F, 0] ∧ s.rx.get .d = .body 0x60 0 3 [1, 2, 3] ∧
      [1, 2, 3].length < (3 : Byte).toNat + 1 ∧ 32 < (33 : Byte).toNat) ∧
    ({ inRun with rx := ⟨.header [0x1F], .hunt⟩ } : State).rx.get .u = .header [0x1F] := by
  unfold State.receives
  decide

theorem test_witness_SettingAndReportLayouts :
    inRun.receives .u ∧ (0x10 : Byte) ∈ ([0x81, 0x10] : List Byte) ∧ (0x10 : Byte).getLsbD 4 = true ∧
      (0x20 : Byte).getLsbD 5 = true ∧ (0x40 : Byte).getLsbD 6 = true ∧ 8 ≤ (8 : Output).val ∧ ¬ 8 ≤ (7 : Output).val := by
  unfold State.receives
  decide

theorem test_witness_StatusSummaryLayout : inRun.mode ≠ .shutdown ∧ inRun.upQ.length < 8 := by decide

theorem test_witness_TwelveOctetLayoutsRoundTrip :
    (⟨63, some 62, 1023, 50000, some 60000, some 1, some ⟨2000, 7⟩, .safe⟩ : Entry).inRange ∧
    (⟨0, none, 0, 0, none, none, none, .lock⟩ : Entry).inRange ∧
    (decodeEntry [63, 62, 3, 255, 195, 80, 234, 96, 2, 200, 7, 1]).isSome = true ∧ settings.inRange ∧
    (decodeSettings [1, 250, 250, 255, 15, 250, 250, 2, 2, 250, 250, 1]).isSome = true := by
  refine ⟨⟨by decide, by decide, ?_, ?_⟩, ⟨by decide, by decide, ?_, ?_⟩, by decide, ?_, by decide⟩
  · rintro m ⟨⟩
    decide
  · rintro p ⟨⟩
    decide
  · rintro m ⟨⟩
  · rintro p ⟨⟩
  · unfold Settings.inRange
    decide

/-- Four states from which a step is taken: reset, RUN with a DRIVE frame waiting, SAFE with a tick waiting, and a first
install due; all meet every law the invariants assume. -/
theorem test_witness_EveryStepKeeps :
    ∀ s ∈ [State.reset, { inRun with pending := [.driveFrame 5 1 41 [0x81]] }, { inSafe with pending := [.tick 5 15 0 []] },
        { State.powerOn with staging := table, handler := .working ⟨1, 8, []⟩ 17, pending := [.validationCompletion 17] }],
      (stepsFrom 1 s).isSome = true ∧ s.emit.tidy = true ∧ tableLaw s.staging = true ∧ tableLaw s.active = true ∧
        s.recordsMatchTable = true ∧ s.logLaw = true ∧ s.upstreamLaw = true ∧ s.modeHoldsKept = true ∧
        s.modeHoldsExact = true ∧ s.causesMatchMode = true ∧ s.shutdownIdle = true ∧ s.failLaw = true ∧
        s.configTickOff = true ∧ s.workingLaw = true ∧ s.attemptLaw = true ∧ attemptsLaw s.staging = true ∧
        attemptsLaw s.active = true := by decide

/-- The same states are lawful, and the install leaves both channels of a pair live; so does one that finds an unguarded
ON for 0.4 in transmission. -/
theorem test_witness_EveryStepKeepsTheGuardLawful :
    let due := { State.powerOn with
      staging := table, handler := .working ⟨1, 8, []⟩ 17, pending := [.validationCompletion 17] }
    (∀ s ∈ [State.reset, { inRun with pending := [.driveFrame 5 1 41 [0x81]] },
        { inSafe with pending := [.tick 5 15 0 []] }, due, priming .charging 1 (some 1040), waiting17, holding17],
      s.lawful = true) ∧
    (stepsFrom 1 due).map (fun t => (t.live 4, t.live 5, (t.active.map Entry.id).head?)) = some (true, true, some 4) ∧
    (let s := { due with emit := { EmitQueue.empty with dtx := .sending (.set (oneSetting 4 .on .normal 0)) 3 } }
    s.lawful = true ∧ s.entry 4 = none ∧ (stepsFrom 1 s).map (fun t => (t.live 5, t.onSending 4)) = some (true, true)) := by
  decide

end Sys2Proof.Tests
end

namespace Sys2Proof.Machine

/-! ## Guard times (R1)

Each comparison is a fact about `elapsed`; `elapsed_after_after` gives it for the times the guard makes with `after`. -/

theorem elapsed_eq_mod (t1 t2 : Time) : elapsed t1 t2 = (t2.toNat + 2 ^ 32 - t1.toNat) % 2 ^ 32 := by
  have ht1 := t1.isLt
  rw [elapsed, BitVec.toNat_sub]
  congr 1
  omega

theorem elapsed_eq_zero_iff (t1 t2 : Time) : elapsed t1 t2 = 0 ↔ t1 = t2 := by
  calc elapsed t1 t2 = 0
      ↔ t2 - t1 = 0#32 := by rw [elapsed, BitVec.toNat_eq, BitVec.toNat_ofNat, Nat.zero_mod]
    _ ↔ t1 = t2 := by rw [BitVec.sub_eq_iff_eq_add, BitVec.zero_add, eq_comm]

theorem atOrBefore_iff (t1 t2 : Time) : atOrBefore t1 t2 = true ↔ elapsed t1 t2 < 2 ^ 31 := by
  simp [atOrBefore]

theorem isBefore_iff_ne (t1 t2 : Time) : isBefore t1 t2 = true ↔ elapsed t1 t2 < 2 ^ 31 ∧ t1 ≠ t2 := by
  simp [isBefore, atOrBefore_iff]

theorem isBefore_iff_pos (t1 t2 : Time) :
    isBefore t1 t2 = true ↔ 0 < elapsed t1 t2 ∧ elapsed t1 t2 < 2 ^ 31 := by
  rw [isBefore_iff_ne, ne_eq, ← elapsed_eq_zero_iff, Nat.pos_iff_ne_zero, and_comm]

theorem hasPassed_iff (t now : Time) (d : Nat) : hasPassed t d now = true ↔ d ≤ elapsed t now := by
  simp [hasPassed]

theorem reached_iff (due now : Time) : reached due now = true ↔ ¬ isBefore now due = true := by
  simp [reached]

@[simp] theorem after_zero (t : Time) : after t 0 = t := by
  simp [after]

/-- The common start cancels: between two times made from it lies the difference of the two durations modulo 2^32. -/
theorem elapsed_after_after (t : Time) {j k : Nat} (hj : j < 2 ^ 32) (hk : k < 2 ^ 32) :
    elapsed (after t j) (after t k) = (k + 2 ^ 32 - j) % 2 ^ 32 := by
  have start_cancels : after t k - after t j = BitVec.ofNat 32 k - BitVec.ofNat 32 j := by
    simp only [after]
    bv_omega
  calc elapsed (after t j) (after t k)
      = elapsed (BitVec.ofNat 32 j) (BitVec.ofNat 32 k) := by rw [elapsed, elapsed, start_cancels]
    _ = (k + 2 ^ 32 - j) % 2 ^ 32 := by
      rw [elapsed_eq_mod, BitVec.toNat_ofNat, BitVec.toNat_ofNat, Nat.mod_eq_of_lt hj, Nat.mod_eq_of_lt hk]

theorem elapsed_after (t : Time) {d : Nat} (hd : d < 2 ^ 32) : elapsed t (after t d) = d := by
  calc elapsed t (after t d)
      = elapsed (after t 0) (after t d) := by rw [after_zero]
    _ = (d + 2 ^ 32 - 0) % 2 ^ 32 := elapsed_after_after t (by omega) hd
    _ = d := by omega

/-- The order R1 promises for times less than 2^31 µs apart. -/
theorem isBefore_after_after (t : Time) {j k : Nat} (hj : j < 2 ^ 31) (hk : k < 2 ^ 31) :
    isBefore (after t j) (after t k) = true ↔ j < k := by
  rw [isBefore_iff_pos, elapsed_after_after t (by omega) (by omega)]
  omega

theorem reached_after_after (t : Time) {d k : Nat} (hd : d < 2 ^ 31) (hk : k < 2 ^ 31) :
    reached (after t d) (after t k) = true ↔ d ≤ k := by
  rw [reached_iff, isBefore_after_after t hk hd, Nat.not_lt]

/-! ## The statement of spec/00_scope.md -/

/-- Settles O3: every comparison is read off the time that has passed, and between times made from one start that is
the difference of their durations. -/
theorem guardTimesOrderedByDifference : Obligations.GuardTimesOrderedByDifference := by
  unfold Obligations.GuardTimesOrderedByDifference
  intro t1 t2
  rw [← elapsed_eq_mod]
  refine ⟨atOrBefore_iff t1 t2, isBefore_iff_ne t1 t2, rfl, hasPassed_iff t1 t2, reached_iff t1 t2, fun d hd => ?_⟩
  have passed_eq : elapsed t1 (after t1 d) = d := elapsed_after t1 (by omega)
  refine ⟨?_, ?_, ?_, ?_⟩
  · rwa [atOrBefore_iff, passed_eq]
  · rw [isBefore_iff_pos, passed_eq, and_iff_left hd]
  · intro k
    rw [hasPassed_iff, passed_eq]
  · exact fun k hk => reached_after_after t1 hd hk

end Sys2Proof.Machine

namespace Sys2Proof.Machine

/-! ## Served requests (R155, R159)

A request that the guard serves reaches its work in the state `State.arrived`, and what the work answers stands at the
tail of the Upstream Queue at once. -/

theorem takesFrames_of_receives {s : State} {p : Port} (h : s.receives p) : s.takesFrames p = true := by
  obtain ⟨_, hmode, hline⟩ := h
  simp [State.takesFrames, hmode, hline]

/-- A frame of at most 32 octets at a port that receives is taken by its block in the state it arrives in. -/
theorem event_receiveFrame {s : State} {p : Port} (h : s.receives p) (dt : Nat) {payload : List Byte}
    (hlen : payload.length ≤ 32) (take : State → State) :
    event dt (receiveFrame p payload take) s = .next (take (s.arrived dt p)) := by
  have takes : (s.advance dt).takesFrames p = true := takesFrames_of_receives h
  have short : ¬ Config.maxPayload < payload.length := Nat.not_lt.mpr hlen
  rw [event_active h.1, receiveFrame, if_pos takes]
  simp only [short, if_false, State.arrived]

/-- A request addressed to an IDLE handler is carried out in the state it arrives in. -/
theorem mgmtFrame_idle {s : State} (hrx : s.receives .u) (hidle : s.handler = .idle) (dt : Nat) (tag name : Byte)
    {args : List Byte} (hlen : args.length < 32) (carry : Request → State → State) :
    mgmtFrame dt 15 tag name args carry s = .next (carry ⟨tag, name, args⟩ (s.arrived dt .u)) := by
  have idle : (s.arrived dt .u).handler = .idle := hidle
  rw [mgmtFrame, event_receiveFrame hrx dt (by simpa using hlen), takeRequest, if_pos (by decide), idle]

/-- With room upward an IDLE handler's response is placed at once. -/
theorem finish_answered {s : State} (hidle : s.handler = .idle) (hroom : s.upQ.length < Config.upstreamCapacity)
    (req : Request) (r : Result) (body : List Byte) : finish req ⟨r, body, 0⟩ s = s.answered req r body := by
  have same : { s with handler := .idle } = s := by rw [← hidle]
  rw [finish, State.upRoom, if_pos (by simpa using hroom), placeResponse_plain, same, State.answered, ← hidle]

/-- A served request of the right length leaves what its work leaves, with the work's response at the tail of the
Upstream Queue. -/
theorem mgmtFrame_served (n : Nat) {s u : State} (hs : s.serves) {dt : Nat} {args : List Byte} {work : Work}
    {r : Result} {body : List Byte} (hlen : args.length = n) (hn : n < 32)
    (hwork : work args (s.arrived dt .u) = (⟨r, body, 0⟩, u)) (hidle : u.handler = s.handler) (hup : u.upQ = s.upQ)
    (tag name : Byte) :
    mgmtFrame dt 15 tag name args (carryOut n work) s = .next (u.answered ⟨tag, name, args⟩ r body) := by
  obtain ⟨hrx, hs_idle, hroom⟩ := hs
  rw [mgmtFrame_idle hrx hs_idle dt tag name (hlen ▸ hn), carryOut, if_pos hlen, hwork,
    finish_answered (hidle.trans hs_idle) (hup ▸ hroom)]

/-! ## Reads of the Channel Table and the Settings Record (R10, R164) -/

theorem decodeChan_eq_none {b : Byte} (h : 63 < b.toNat) : decodeChan b = none := by
  rw [decodeChan, dif_neg (by omega)]

theorem decodeChan_eq_some {b : Byte} {c : Chan} (h : b.toNat = c.val) : decodeChan b = some c := by
  have hc := c.isLt
  rw [decodeChan, dif_pos (by omega)]
  exact congrArg some (Fin.ext h)

/-- The copy octet 0 names the staging side, 1 the active side. -/
theorem copyOf_eq_some {k : Byte} (h : k = 0 ∨ k = 1) (s : State) :
    copyOf k s = some (if k = 0 then (s.staging, s.stagingSet) else (s.active, s.activeSet)) := by
  rcases h with rfl | rfl <;> rfl

theorem copyOf_eq_none {k : Byte} (h0 : k ≠ 0) (h1 : k ≠ 1) (s : State) : copyOf k s = none := by
  rw [copyOf, if_neg h0, if_neg h1]

/-- TABLE-READ of a copy and a channel id: RANGE without either, ABSENT without an entry, or the entry's octets. -/
theorem workTableRead_eq (k id : Byte) (s : State) :
    workTableRead [k, id] s =
      ((((copyOf k s).bind fun copy => (decodeChan id).map fun c =>
          ((findEntry c copy.1).map fun e => Response.data (encodeEntry e)).getD (.plain .absent)).getD
        (.plain .range)), s) := by
  dsimp only [workTableRead]
  cases copyOf k s with
  | none => rfl
  | some copy =>
    cases decodeChan id with
    | none => rfl
    | some c =>
      dsimp only [Option.bind_some, Option.map_some, Option.getD_some]
      cases findEntry c copy.1 <;> rfl

/-- SETTINGS-READ of a copy: RANGE without one, or its Settings Record's octets. -/
theorem workSettingsRead_eq (k : Byte) (s : State) :
    workSettingsRead [k] s =
      (((copyOf k s).map fun copy => Response.data (encodeSettings copy.2)).getD (.plain .range), s) := by
  dsimp only [workSettingsRead]
  cases copyOf k s <;> rfl

/-- A served TABLE-READ leaves nothing but its answer, the one its work gives. -/
theorem exec_tableRead {s : State} (hs : s.serves) {dt : Nat} {k id : Byte} {r : Result} {body : List Byte}
    (hwork : workTableRead [k, id] (s.arrived dt .u) = (⟨r, body, 0⟩, s.arrived dt .u)) (tag : Byte) :
    exec (.tableRead dt 15 tag [k, id]) s = .next ((s.arrived dt .u).answered ⟨tag, 3, [k, id]⟩ r body) :=
  mgmtFrame_served 2 hs rfl (by decide) hwork rfl rfl tag 3

/-- A served SETTINGS-READ leaves nothing but its answer, the one its work gives. -/
theorem exec_settingsRead {s : State} (hs : s.serves) {dt : Nat} {k : Byte} {r : Result} {body : List Byte}
    (hwork : workSettingsRead [k] (s.arrived dt .u) = (⟨r, body, 0⟩, s.arrived dt .u)) (tag : Byte) :
    exec (.settingsRead dt 15 tag [k]) s = .next ((s.arrived dt .u).answered ⟨tag, 6, [k]⟩ r body) :=
  mgmtFrame_served 1 hs rfl (by decide) hwork rfl rfl tag 6

/-- Settles O21: each answer is the one of the read's work, by the copy octet, the channel id and the entry found. -/
theorem tableAndSettingsReadsAnswer : Obligations.TableAndSettingsReadsAnswer := by
  unfold Obligations.TableAndSettingsReadsAnswer
  intro dt tag s hs w side
  constructor
  · intro k id hk
    have named : copyOf k w = some (side k) := copyOf_eq_some hk w
    have read : ∀ c : Chan, id.toNat = c.val → workTableRead [k, id] w =
        (((findEntry c (side k).1).map fun e => Response.data (encodeEntry e)).getD (.plain .absent), w) := by
      intro c hid
      rw [workTableRead_eq, named, decodeChan_eq_some hid]
      rfl
    refine ⟨fun hid => ?_, fun c hid he => ?_, fun c e hid he => ?_, ?_⟩
    · exact exec_tableRead hs (by rw [workTableRead_eq, named, decodeChan_eq_none hid]; rfl) tag
    · exact exec_tableRead hs ((read c hid).trans (by rw [he]; rfl)) tag
    · exact exec_tableRead hs ((read c hid).trans (by rw [he]; rfl)) tag
    · exact exec_settingsRead hs (by rw [workSettingsRead_eq, named]; rfl) tag
  · intro k id h0 h1
    have unnamed : copyOf k w = none := copyOf_eq_none h0 h1 w
    exact ⟨exec_tableRead hs (by rw [workTableRead_eq, unnamed]; rfl) tag,
      exec_settingsRead hs (by rw [workSettingsRead_eq, unnamed]; rfl) tag⟩

end Sys2Proof.Machine

namespace Sys2Proof.Machine

/-! ## The active side (R9, R15)

The Active Copy, the Active Settings Record and the committed flag change together: an install and the two ends of a
device reset write them, and every other operation leaves all three; its lemma is named `<operation>_activeSide`. -/

/-- The Active Copy, the Active Settings Record and the committed flag. -/
def State.activeSide (s : State) : List Entry × Settings × Bool := (s.active, s.activeSet, s.committed)

theorem activeSide_def (s : State) : s.activeSide = (s.active, s.activeSet, s.committed) := rfl

theorem activeSide_eq_iff {s : State} {a : List Entry} {r : Settings} {b : Bool} :
    s.activeSide = (a, r, b) ↔ s.active = a ∧ s.activeSet = r ∧ s.committed = b := by
  simp [activeSide_def]

/-! ### Shared operations -/

theorem ChargeWork.activeSide {s t : State} (h : ChargeWork s t) : t.activeSide = s.activeSide := by
  unfold ChargeWork at h
  rw [h]
  rfl

theorem ChannelWork.activeSide {s t : State} (h : ChannelWork s t) : t.activeSide = s.activeSide :=
  h.charge.activeSide

/-- A fold of operations that each leave the active side leaves it. -/
theorem foldl_activeSide {α : Type} {f : State → α → State} (h : ∀ s a, (f s a).activeSide = s.activeSide)
    (l : List α) (s : State) : (l.foldl f s).activeSide = s.activeSide := by
  induction l generalizing s with
  | nil => rfl
  | cons a l ih => exact (ih _).trans (h s a)

theorem placeResponse_activeSide (req : Request) (resp : Response) (s : State) :
    (placeResponse req resp s).activeSide = s.activeSide := by
  unfold placeResponse removeRecords
  dsimp only
  split <;> rfl

theorem finish_activeSide (req : Request) (resp : Response) (s : State) :
    (finish req resp s).activeSide = s.activeSide := by
  rcases finish_cases req resp s with ⟨_, h⟩ | ⟨_, h⟩ <;> rw [h]
  · exact placeResponse_activeSide req resp s
  · rfl

theorem busyReply_activeSide (req : Request) (s : State) : (busyReply req s).activeSide = s.activeSide := by
  rcases busyReply_cases req s with ⟨_, h⟩ | ⟨_, h⟩ <;> rw [h] <;> rfl

theorem setStage_activeSide (st : Stage) (r : StageRec) (s : State) :
    (setStage st r s).activeSide = s.activeSide :=
  (setStage_work st r s).activeSide

theorem setStages_activeSide (f : Stage → StageRec → StageRec) (s : State) :
    (setStages f s).activeSide = s.activeSide :=
  foldl_activeSide (fun s st => (maskChange_work st _ _ _).activeSide.trans (setStage_activeSide st _ s)) _ s

theorem setZone_activeSide (z : Zone) (st : ZoneState) (timer : Option Time) (s : State) :
    (setZone z st timer s).activeSide = s.activeSide :=
  (setZone_work z st timer s).activeSide

theorem stopZones_activeSide (s : State) : (stopZones s).activeSide = s.activeSide :=
  (setZone_activeSide 1 _ _ _).trans (setZone_activeSide 0 _ _ s)

theorem startZone_activeSide (z : Zone) (s : State) : (startZone z s).activeSide = s.activeSide := by
  unfold startZone
  cases s.activeSet.zoneMode.get z with
  | off => exact setZone_activeSide z _ _ s
  | direct =>
    dsimp only
    split <;> exact setZone_activeSide z _ _ s
  | toggle => exact setZone_activeSide z _ _ s

/-! ### Supervision and modes (R122 to R127, R129, R135 to R151) -/

/-- The steps that SHUTDOWN entry and STOP share: quenches, and MODE in place of SAFE on every guarded channel. -/
theorem quench_and_hold_activeSide (cs ds : List Chan) (s : State) :
    (removeHolds .safe cs (addHolds .mode ds (quenchAll s))).activeSide = s.activeSide :=
  (((quenchAll_work s).trans (addHolds_work _ _ _)).trans (removeHolds_work _ _ _)).activeSide

theorem enterShutdown_activeSide (s : State) : (enterShutdown s).activeSide = s.activeSide := by
  unfold enterShutdown
  dsimp only [activeSide_def]
  refine (makeRecord_work .streamLimit _).activeSide.trans ?_
  dsimp only [activeSide_def, stopReportTimers, stopRecognition]
  refine (stopZones_activeSide _).trans ?_
  dsimp only [activeSide_def]
  exact quench_and_hold_activeSide _ _ s

theorem tickOpenFirst_activeSide (s : State) : (tickOpenFirst s).activeSide = s.activeSide := rfl

theorem validTick_activeSide (s : State) : (validTick s).activeSide = s.activeSide :=
  (removeCause_work .stream _).activeSide

theorem streamFailure_activeSide (k : FaultKind) (s : State) : (streamFailure k s).activeSide = s.activeSide := by
  unfold streamFailure
  dsimp only
  have recorded : (makeRecord k s).activeSide = s.activeSide := (makeRecord_work k s).activeSide
  split
  · exact (enterShutdown_activeSide _).trans recorded
  · split <;> exact (addCause_work .stream _).activeSide.trans recorded

theorem judgeTick_activeSide (s : State) : (judgeTick s).activeSide = s.activeSide := by
  unfold judgeTick
  cases s.tick.state with
  | openFirst => exact validTick_activeSide s
  | opened => exact validTick_activeSide s
  | closed => exact streamFailure_activeSide _ s
  | off => rfl
  | resetting => rfl
  | grace => rfl

theorem takeTick_activeSide (addr : BitVec 4) (payload : List Byte) (s : State) :
    (takeTick addr payload s).activeSide = s.activeSide := by
  unfold takeTick
  split
  · exact judgeTick_activeSide s
  · rfl

theorem tickExpiry_activeSide (states : List TickState) {effect : State → State}
    (h : ∀ s, (effect s).activeSide = s.activeSide) (s : State) :
    (tickExpiry states effect s).activeSide = s.activeSide := by
  unfold tickExpiry
  split
  · exact h s
  · rfl

theorem lineEdge_activeSide (z : Zone) (high : Bool) (s : State) :
    (lineEdge z high s).activeSide = s.activeSide := by
  unfold lineEdge
  dsimp only
  split <;> rfl

theorem zoneChange_activeSide (z : Zone) (rising : Bool) (s : State) :
    (zoneChange z rising s).activeSide = s.activeSide := by
  unfold zoneChange
  split
  case h_6 => rfl
  all_goals exact setZone_activeSide z _ _ s

theorem recognise_activeSide (z : Zone) (s : State) : (recognise z s).activeSide = s.activeSide := by
  unfold recognise
  dsimp only
  cases (s.zones.get z).measuring with
  | none => rfl
  | some t =>
    dsimp only
    split
    · exact zoneChange_activeSide z _ _
    · rfl

theorem toggleExpires_activeSide (z : Zone) (s : State) : (toggleExpires z s).activeSide = s.activeSide := by
  unfold toggleExpires
  dsimp only
  split
  · exact (makeRecord_work _ _).activeSide.trans (setZone_activeSide z _ _ s)
  · rfl

theorem startSteps_activeSide (s : State) : (startSteps s).activeSide = s.activeSide := by
  unfold startSteps
  extract_lets _ unsynced timer silenced zoned _ ticking released
  have h_stages : silenced.activeSide = s.activeSide := setStages_activeSide _ unsynced
  have h_zones : zoned.activeSide = silenced.activeSide := (startZone_activeSide 1 _).trans (startZone_activeSide 0 _)
  have h_tick : ticking.activeSide = zoned.activeSide := by
    unfold ticking
    split
    · dsimp only [activeSide_def]
    · exact tickOpenFirst_activeSide zoned
  have h_released : released.activeSide = ticking.activeSide := (removeHolds_work .mode _ _).activeSide
  dsimp only [activeSide_def]
  exact ((h_released.trans h_tick).trans h_zones).trans h_stages

theorem stopSteps_activeSide (s : State) : (stopSteps s).activeSide = s.activeSide := by
  unfold stopSteps
  dsimp only [activeSide_def]
  refine (setStages_activeSide _ _).trans ?_
  refine (stopZones_activeSide _).trans ?_
  dsimp only [activeSide_def]
  exact quench_and_hold_activeSide _ _ s

theorem resumeSteps_activeSide (s : State) : (resumeSteps s).activeSide = s.activeSide :=
  (returnIfClear_work _).activeSide.trans (removeHolds_work .lock _ _).activeSide

theorem wakeSteps_activeSide (s : State) : (wakeSteps s).activeSide = s.activeSide :=
  (quenchAll_work _).activeSide

/-! ### Command Intake (R69 to R83) -/

theorem guardedSetting_activeSide (c : Chan) (v : Level) (seq : Byte) (s : State) :
    (guardedSetting c v seq s).activeSide = s.activeSide := by
  cases v with
  | off => exact (offRequest_work c seq s).activeSide
  | on =>
    have asked : (onRequest c seq s).2.activeSide = s.activeSide := (onRequest_work c seq s).activeSide
    unfold guardedSetting
    dsimp only
    split <;> rename_i h <;> rw [h] at asked <;> exact asked

theorem unguardedSetting_activeSide (c : Chan) (v : Level) (seq : Byte) (s : State) :
    (unguardedSetting c v seq s).activeSide = s.activeSide := by
  unfold unguardedSetting
  split
  · cases s.activeSet.passPolicy <;> rfl
  · rfl

theorem dealSetting_activeSide (seq : Byte) (s : State) (x : Chan × Level) :
    (dealSetting seq s x).activeSide = s.activeSide := by
  unfold dealSetting
  split
  · exact guardedSetting_activeSide _ _ seq s
  · exact unguardedSetting_activeSide _ _ seq s

theorem noteConflict_activeSide (seq : Byte) (c : Chan) (s : State) :
    (noteConflict seq c s).activeSide = s.activeSide :=
  (makeRecord_work _ _).activeSide

theorem splitFrame_activeSide (seq : Byte) (settings : List (Chan × Level)) (s : State) :
    (splitFrame seq settings s).activeSide = s.activeSide :=
  (foldl_activeSide (dealSetting_activeSide seq) _ _).trans
    (foldl_activeSide (fun s c => noteConflict_activeSide seq c s) _ s)

theorem windowFrame_activeSide (seq : Byte) (settings : List (Chan × Level)) (s : State) :
    (windowFrame seq settings s).activeSide = s.activeSide := by
  unfold windowFrame
  cases s.window.judge seq with
  | duplicate => rfl
  | stale => rfl
  | accepted => exact splitFrame_activeSide seq settings _
  | acceptedGap n => exact splitFrame_activeSide seq settings _

theorem modeGate_activeSide (seq : Byte) (settings : List (Chan × Level)) (s : State) :
    (modeGate seq settings s).activeSide = s.activeSide := by
  unfold modeGate
  cases s.mode with
  | config => cases settings <;> rfl
  | run => exact windowFrame_activeSide seq settings s
  | safe => exact windowFrame_activeSide seq settings s
  | shutdown => rfl

theorem takeDrive_activeSide (addr : BitVec 4) (seq : Byte) (payload : List Byte) (s : State) :
    (takeDrive addr seq payload s).activeSide = s.activeSide := by
  unfold takeDrive
  cases stageOf addr with
  | none => rfl
  | some st =>
    dsimp only
    split
    · exact modeGate_activeSide seq _ s
    · rfl

theorem takeAux_activeSide (addr : BitVec 4) (payload : List Byte) (s : State) :
    (takeAux addr payload s).activeSide = s.activeSide := by
  unfold takeAux
  cases stageOf addr with
  | none => rfl
  | some st =>
    dsimp only
    split <;> rfl

/-! ### Stage reports (R105 to R109) -/

theorem takeWellFormedReport_activeSide (st : Stage) (mask : BitVec 16) (fault : Bool) (f : Frame) (s : State) :
    (takeWellFormedReport st mask fault f s).activeSide = s.activeSide := by
  unfold takeWellFormedReport
  dsimp only
  generalize hset : maskChange st _ mask (setStage st _ s) = u
  have heard : u.activeSide = s.activeSide := by
    rw [← hset]
    exact (maskChange_work _ _ _ _).activeSide.trans (setStage_activeSide st _ s)
  generalize hrec : (if fault && !(s.stages.get st).fault then makeRecord (.stageFault st) u else u) = v
  have recorded : v.activeSide = u.activeSide := by
    rw [← hrec]
    split
    · exact (makeRecord_work _ _).activeSide
    · rfl
  split <;> exact recorded.trans heard

theorem takeReport_activeSide (addr : BitVec 4) (seq : Byte) (payload : List Byte) (s : State) :
    (takeReport addr seq payload s).activeSide = s.activeSide := by
  unfold takeReport
  split
  · exact takeWellFormedReport_activeSide _ _ _ _ s
  · rfl

theorem reportTimerExpires_activeSide (st : Stage) (s : State) :
    (reportTimerExpires st s).activeSide = s.activeSide := by
  unfold reportTimerExpires
  dsimp only
  split
  · exact (makeRecord_work _ _).activeSide.trans
      ((maskChange_work _ _ _ _).activeSide.trans (setStage_activeSide st _ s))
  · rfl

/-! ### Management requests (R155 to R168) -/

/-- The request's work leaves the active side. -/
def Work.KeepsActiveSide (work : Work) : Prop := ∀ args s, (work args s).2.activeSide = s.activeSide

theorem workQuery_activeSide : Work.KeepsActiveSide workQuery := by
  intro args s
  unfold workQuery
  split
  · split_ifs <;> rfl
  · rfl

theorem workChannelRead_activeSide : Work.KeepsActiveSide workChannelRead := by
  intro args s
  unfold workChannelRead
  split
  · next b =>
    cases decodeChan b with
    | none => rfl
    | some c =>
      dsimp only
      cases s.chan c <;> rfl
  · rfl

theorem workTableRead_activeSide : Work.KeepsActiveSide workTableRead := by
  intro args s
  unfold workTableRead
  split
  · split
    · split <;> rfl
    · rfl
  · rfl

theorem workTableWrite_activeSide : Work.KeepsActiveSide workTableWrite := by
  intro args s
  unfold workTableWrite
  cases decodeEntry args with
  | none => rfl
  | some e =>
    dsimp only
    split <;> rfl

theorem workTableDelete_activeSide : Work.KeepsActiveSide workTableDelete := by
  intro args s
  unfold workTableDelete
  split
  · next b =>
    cases decodeChan b with
    | none => rfl
    | some c =>
      dsimp only
      split <;> rfl
  · rfl

theorem workSettingsRead_activeSide : Work.KeepsActiveSide workSettingsRead := by
  intro args s
  unfold workSettingsRead
  split
  · next k => cases copyOf k s <;> rfl
  · rfl

theorem workSettingsWrite_activeSide : Work.KeepsActiveSide workSettingsWrite := by
  intro args s
  unfold workSettingsWrite
  cases decodeSettings args <;> rfl

theorem workDiscard_activeSide : Work.KeepsActiveSide workDiscard := fun _ _ => rfl

theorem workStart_activeSide : Work.KeepsActiveSide workStart := by
  intro args s
  unfold workStart
  split
  · rfl
  · split
    · rfl
    · exact startSteps_activeSide s

theorem workStop_activeSide : Work.KeepsActiveSide workStop := by
  intro args s
  unfold workStop
  split
  · rfl
  · exact stopSteps_activeSide s

theorem workSafe_activeSide : Work.KeepsActiveSide workSafe := by
  intro args s
  unfold workSafe
  split
  · rfl
  · exact (addCause_work .command s).activeSide

theorem workResume_activeSide : Work.KeepsActiveSide workResume := by
  intro args s
  unfold workResume
  split
  · rfl
  · exact resumeSteps_activeSide s

theorem workLogRead_activeSide : Work.KeepsActiveSide workLogRead := by
  intro args s
  unfold workLogRead
  split
  · split <;> rfl
  · rfl

/-- Taking a request in this way leaves the active side. -/
def CarryKeepsActiveSide (carry : Request → State → State) : Prop :=
  ∀ req s, (carry req s).activeSide = s.activeSide

theorem CarryKeepsActiveSide.ite {p : Prop} [Decidable p] {f g : Request → State → State}
    (hf : CarryKeepsActiveSide f) (hg : CarryKeepsActiveSide g) : CarryKeepsActiveSide (if p then f else g) := by
  split
  · exact hf
  · exact hg

theorem carryOut_activeSide (len : Nat) {work : Work} (h : work.KeepsActiveSide) :
    CarryKeepsActiveSide (carryOut len work) := by
  intro req s
  unfold carryOut
  split
  · exact (finish_activeSide _ _ _).trans (h _ s)
  · exact finish_activeSide _ _ s

theorem carryCommit_activeSide : CarryKeepsActiveSide carryCommit := by
  intro req s
  unfold carryCommit
  split
  · split
    · rfl
    · exact finish_activeSide _ _ s
  · exact finish_activeSide _ _ s

theorem carryByName_activeSide (name : Byte) : CarryKeepsActiveSide (carryByName name) :=
  .ite (carryOut_activeSide 1 workQuery_activeSide) <|
  .ite (carryOut_activeSide 1 workChannelRead_activeSide) <|
  .ite (carryOut_activeSide 2 workTableRead_activeSide) <|
  .ite (carryOut_activeSide 12 workTableWrite_activeSide) <|
  .ite (carryOut_activeSide 1 workTableDelete_activeSide) <|
  .ite (carryOut_activeSide 1 workSettingsRead_activeSide) <|
  .ite (carryOut_activeSide 12 workSettingsWrite_activeSide) <|
  .ite carryCommit_activeSide <|
  .ite (carryOut_activeSide 0 workDiscard_activeSide) <|
  .ite (carryOut_activeSide 0 workStart_activeSide) <|
  .ite (carryOut_activeSide 0 workStop_activeSide) <|
  .ite (carryOut_activeSide 0 workSafe_activeSide) <|
  .ite (carryOut_activeSide 0 workResume_activeSide) <|
  .ite (carryOut_activeSide 1 workLogRead_activeSide) fun req s => finish_activeSide req _ s

theorem takeRequest_activeSide (addr : BitVec 4) {carry : Request → State → State}
    (h : CarryKeepsActiveSide carry) (req : Request) (s : State) :
    (takeRequest addr carry req s).activeSide = s.activeSide := by
  unfold takeRequest
  split
  · cases s.handler with
    | idle => exact h req s
    | working _ _ => exact busyReply_activeSide req s
    | replying _ _ => exact busyReply_activeSide req s
  · rfl

theorem takeMgmt_activeSide (addr : BitVec 4) (tag : Byte) (payload : List Byte) (s : State) :
    (takeMgmt addr tag payload s).activeSide = s.activeSide := by
  cases payload with
  | nil => rfl
  | cons name args => exact takeRequest_activeSide addr (carryByName_activeSide name) _ s

/-! ### Receivers (R181 to R183) -/

theorem receiveFrame_activeSide (p : Port) (payload : List Byte) {take : State → State}
    (h : ∀ s, (take s).activeSide = s.activeSide) (s : State) :
    (receiveFrame p payload take s).activeSide = s.activeSide := by
  rcases receiveFrame_cases p payload take s with ⟨_, hr⟩ | ⟨_, _, hr⟩ | ⟨_, _, hr⟩ <;> rw [hr]
  · rfl
  · exact h _

theorem spoilFrame_activeSide (p : Port) (s : State) : (spoilFrame p s).activeSide = s.activeSide := by
  unfold spoilFrame
  split <;> rfl

theorem faultyFrame_activeSide (p : Port) (k : Counter) (s : State) :
    (faultyFrame p k s).activeSide = s.activeSide := by
  unfold faultyFrame
  split <;> rfl

theorem breakSeen_activeSide (p : Port) (s : State) : (breakSeen p s).activeSide = s.activeSide := by
  unfold breakSeen
  split
  · rfl
  · exact spoilFrame_activeSide p s

theorem breakOver_activeSide (p : Port) (s : State) : (breakOver p s).activeSide = s.activeSide := by
  unfold breakOver
  split <;> rfl

theorem handFrame_activeSide (p : Port) (code addr : BitVec 4) (h1 : Byte) (payload : List Byte) (s : State) :
    (handFrame p code addr h1 payload s).activeSide = s.activeSide := by
  unfold handFrame
  split
  · exact takeDrive_activeSide addr h1 payload s
  · exact takeAux_activeSide addr payload s
  · exact takeTick_activeSide addr payload s
  · exact takeMgmt_activeSide addr h1 payload s
  · exact takeReport_activeSide addr h1 payload s
  · rfl

theorem checkFrame_activeSide (p : Port) (h0 h1 h2 : Byte) (payload : List Byte) (hi lo : Byte) (s : State) :
    (checkFrame p h0 h1 h2 payload hi lo s).activeSide = s.activeSide := by
  unfold checkFrame
  split
  · exact handFrame_activeSide p _ _ h1 payload s
  · rfl

theorem sample_activeSide (p : Port) (b : Byte) (s : State) : (sample p b s).activeSide = s.activeSide := by
  unfold sample
  split
  · rfl
  · split <;> rfl
  · split
    · rfl
    · rfl
    · split <;> rfl
  · split
    · rfl
    · exact checkFrame_activeSide p _ _ _ _ _ b _

/-! ### Transmitters, channels and restarts -/

theorem choose_activeSide (s : State) : (choose s).activeSide = s.activeSide := by
  unfold choose
  split
  · cases s.emit.choice <;> rfl
  · rfl

theorem completeEmission_activeSide (s : State) : (completeEmission s).activeSide = s.activeSide := by
  unfold completeEmission
  cases s.emit.dtx with
  | sending r _ => exact (emissionTaken_work r _).activeSide
  | idle => rfl
  | gap => rfl
  | silent => rfl

theorem endGap_activeSide (s : State) : (endGap s).activeSide = s.activeSide := by
  unfold endGap
  split
  · split <;> rfl
  · rfl

theorem placeWaiting_activeSide (s : State) : (placeWaiting s).activeSide = s.activeSide := by
  unfold placeWaiting
  cases s.handler with
  | replying req resp => exact placeResponse_activeSide req resp s
  | idle => rfl
  | working _ _ => rfl

theorem takeUpHead_activeSide (s : State) : (takeUpHead s).activeSide = s.activeSide := by
  unfold takeUpHead
  split
  · exact placeWaiting_activeSide _
  · rfl

theorem upFrameSent_activeSide (s : State) : (upFrameSent s).activeSide = s.activeSide := by
  unfold upFrameSent
  cases s.utx <;> rfl

theorem upGapEnds_activeSide (s : State) : (upGapEnds s).activeSide = s.activeSide := by
  unfold upGapEnds
  split <;> rfl

theorem takeHead_activeSide (r : Reason) {take : PendEntry → State → State}
    (h : ∀ e s, (take e s).activeSide = s.activeSide) (s : State) :
    (takeHead r take s).activeSide = s.activeSide := by
  unfold takeHead
  cases s.dueHead r with
  | none => rfl
  | some e => exact h e s

theorem onTimerCheck_activeSide (c : Chan) (s : State) : (onTimerCheck c s).activeSide = s.activeSide := by
  unfold onTimerCheck
  split
  · exact (onTimerExpires_work c s).activeSide
  · rfl

theorem phaseExpiry_activeSide (t : Chan) (p : Phase) {effect : Ctx → State → State}
    (h : ∀ x s, (effect x s).activeSide = s.activeSide) (s : State) :
    (phaseExpiry t p effect s).activeSide = s.activeSide := by
  unfold phaseExpiry
  cases s.ctx t with
  | none => rfl
  | some x =>
    dsimp only
    split
    · exact h x s
    · rfl

/-! ### The install (R15) -/

theorem useChange_activeSide (usedBefore : Stage → Bool) (st : Stage) (s : State) :
    (useChange usedBefore st s).activeSide = s.activeSide := by
  unfold useChange
  dsimp only
  split
  · split
    · exact setStage_activeSide st _ s
    · rfl
  · split
    · exact setStage_activeSide st _ s
    · rfl

theorem adopt_activeSide (e : Entry) (s : State) : (adopt e s).activeSide = s.activeSide := rfl

theorem renewZone_activeSide (old : List Entry) (e : Entry) (s : State) :
    (renewZone old e s).activeSide = s.activeSide := by
  unfold renewZone
  split
  · split_ifs
    · rfl
    · exact (addHold_work .zone e.id s).activeSide
    · rfl
    · rfl
  · rfl

/-- An install makes the staging side the active side and sets the committed flag. -/
theorem install_activeSide (s : State) : (install s).activeSide = (s.staging, s.stagingSet, true) := by
  unfold install
  extract_lets old usedBefore copied used adopted adopting kept
  have h_used : used.activeSide = copied.activeSide := foldl_activeSide (fun s st => useChange_activeSide _ st s) _ _
  have h_adopting : adopting.activeSide = used.activeSide := foldl_activeSide (fun s e => adopt_activeSide e s) _ _
  have h_renewed : (kept.active.foldl (fun s e => renewZone old e s) kept).activeSide = kept.activeSide :=
    foldl_activeSide (fun s e => renewZone_activeSide old e s) _ _
  exact (h_renewed.trans h_adopting).trans h_used

/-- The end of a COMMIT's validation keeps the active side or installs. -/
theorem completeCommit_activeSide (req : Request) (s : State) :
    (completeCommit req s).activeSide = s.activeSide ∨
      (completeCommit req s).activeSide = (s.staging, s.stagingSet, true) := by
  unfold completeCommit
  cases (validate s).failure with
  | some failure => exact .inl (finish_activeSide _ _ s)
  | none =>
    cases installCheck s with
    | some c => exact .inl (finish_activeSide _ _ s)
    | none => exact .inr ((finish_activeSide _ _ _).trans (install_activeSide s))

theorem validationCheck_activeSide (s : State) :
    (validationCheck s).activeSide = s.activeSide ∨
      (validationCheck s).activeSide = (s.staging, s.stagingSet, true) := by
  unfold validationCheck
  cases s.handler with
  | idle => exact .inl rfl
  | replying _ _ => exact .inl rfl
  | working req due =>
    dsimp only
    split
    · exact completeCommit_activeSide req s
    · exact .inl rfl

/-! ### Every command -/

/-- An event whose effect leaves the active side leaves it. -/
theorem event_activeSide {dt : Nat} {f : State → State} {s t : State} (h : event dt f s = .next t)
    (hf : ∀ s, (f s).activeSide = s.activeSide) : t.activeSide = s.activeSide := by
  rcases event_cases dt f s with he | he <;> rw [he] at h <;> cases h
  · rfl
  · exact hf _

theorem frame_activeSide {dt : Nat} {p : Port} {payload : List Byte} {take : State → State} {s t : State}
    (h : event dt (receiveFrame p payload take) s = .next t) (htake : ∀ s, (take s).activeSide = s.activeSide) :
    t.activeSide = s.activeSide :=
  event_activeSide h (receiveFrame_activeSide p payload htake)

theorem mgmtFrame_activeSide {dt : Nat} {addr : BitVec 4} {tag name : Byte} {args : List Byte}
    {carry : Request → State → State} {s t : State}
    (h : mgmtFrame dt addr tag name args carry s = .next t) (hcarry : CarryKeepsActiveSide carry) :
    t.activeSide = s.activeSide :=
  frame_activeSide h (takeRequest_activeSide addr hcarry _)

theorem execResetRelease_activeSide {dt : Nat} {cause : ResetCause} {s t : State}
    (h : execResetRelease dt cause s = .next t) :
    t.activeSide = s.activeSide ∨ t.activeSide = State.powerOn.activeSide := by
  unfold execResetRelease at h
  split at h
  · cases cause <;> dsimp only at h <;> split at h <;> cases h
    · exact .inl rfl
    · exact .inr (quenchAll_work _).activeSide
    · exact .inl rfl
    · exact .inr (quenchAll_work _).activeSide
  · cases h
    exact .inl rfl

theorem execStartupHoldExpiry_activeSide {dt : Nat} {s t : State} (h : execStartupHoldExpiry dt s = .next t) :
    t.activeSide = s.activeSide := by
  unfold execStartupHoldExpiry at h
  refine event_activeSide h fun u => ?_
  split <;> rfl

theorem execWakeRestart_activeSide {dt low : Nat} {s t : State} (h : execWakeRestart dt low s = .next t) :
    t.activeSide = s.activeSide := by
  unfold execWakeRestart at h
  refine event_activeSide h fun u => ?_
  split
  · exact wakeSteps_activeSide u
  · rfl

theorem execOctetSampled_activeSide {dt : Nat} {p : Port} {b : Byte} {s t : State}
    (h : execOctetSampled dt p b s = .next t) : t.activeSide = s.activeSide := by
  unfold execOctetSampled at h
  refine event_activeSide h fun u => ?_
  split
  · rfl
  · exact sample_activeSide p b u

theorem execZoneLineEdge_activeSide {dt : Nat} {z : Zone} {high : Bool} {s t : State}
    (h : execZoneLineEdge dt z high s = .next t) : t.activeSide = s.activeSide := by
  unfold execZoneLineEdge at h
  split at h <;> cases h <;> exact lineEdge_activeSide z high _

/-- What a command can do to the active side: leave it, install the staging side, or set it to its power-on values. -/
theorem exec_activeSide {i : Instr} {s t : State} (h : exec i s = .next t) :
    t.activeSide = s.activeSide ∨ t.activeSide = (s.staging, s.stagingSet, true) ∨
      t.activeSide = State.powerOn.activeSide := by
  cases i with
  | deviceReset dt cause =>
    cases cause <;> cases h <;> exact .inr (.inr rfl)
  | resetRelease dt cause => exact (execResetRelease_activeSide h).imp_right .inr
  | validationCompletion dt =>
    rcases event_cases dt validationCheck s with he | he
    · cases he.symm.trans h
      exact .inl rfl
    · cases he.symm.trans h
      exact (validationCheck_activeSide (s.advance dt)).imp_right .inl
  | zoneLineEdge dt zone high => exact .inl (execZoneLineEdge_activeSide h)
  | startupHoldExpiry dt => exact .inl (execStartupHoldExpiry_activeSide h)
  | wakeRestart dt low => exact .inl (execWakeRestart_activeSide h)
  | driveFrame dt addr seq payload => exact .inl (frame_activeSide h (takeDrive_activeSide addr seq payload))
  | auxFrame dt addr seq payload => exact .inl (frame_activeSide h (takeAux_activeSide addr payload))
  | tick dt addr seq payload => exact .inl (frame_activeSide h (takeTick_activeSide addr payload))
  | closedExpiry dt => exact .inl (event_activeSide h (tickExpiry_activeSide _ fun _ => rfl))
  | lateFailure dt => exact .inl (event_activeSide h (tickExpiry_activeSide _ (streamFailure_activeSide .streamLate)))
  | resettingExpiry dt => exact .inl (event_activeSide h (tickExpiry_activeSide _ fun _ => rfl))
  | graceExpiry dt => exact .inl (event_activeSide h (tickExpiry_activeSide _ tickOpenFirst_activeSide))
  | query => exact .inl (mgmtFrame_activeSide h (carryOut_activeSide 1 workQuery_activeSide))
  | channelRead => exact .inl (mgmtFrame_activeSide h (carryOut_activeSide 1 workChannelRead_activeSide))
  | tableRead => exact .inl (mgmtFrame_activeSide h (carryOut_activeSide 2 workTableRead_activeSide))
  | tableWrite => exact .inl (mgmtFrame_activeSide h (carryOut_activeSide 12 workTableWrite_activeSide))
  | tableDelete => exact .inl (mgmtFrame_activeSide h (carryOut_activeSide 1 workTableDelete_activeSide))
  | settingsRead => exact .inl (mgmtFrame_activeSide h (carryOut_activeSide 1 workSettingsRead_activeSide))
  | settingsWrite => exact .inl (mgmtFrame_activeSide h (carryOut_activeSide 12 workSettingsWrite_activeSide))
  | commit => exact .inl (mgmtFrame_activeSide h carryCommit_activeSide)
  | discard => exact .inl (mgmtFrame_activeSide h (carryOut_activeSide 0 workDiscard_activeSide))
  | start => exact .inl (mgmtFrame_activeSide h (carryOut_activeSide 0 workStart_activeSide))
  | stop => exact .inl (mgmtFrame_activeSide h (carryOut_activeSide 0 workStop_activeSide))
  | safe => exact .inl (mgmtFrame_activeSide h (carryOut_activeSide 0 workSafe_activeSide))
  | resume => exact .inl (mgmtFrame_activeSide h (carryOut_activeSide 0 workResume_activeSide))
  | logRead => exact .inl (mgmtFrame_activeSide h (carryOut_activeSide 1 workLogRead_activeSide))
  | unknownRequest dt addr tag payload => exact .inl (frame_activeSide h (takeMgmt_activeSide addr tag payload))
  | report dt addr seq payload => exact .inl (frame_activeSide h (takeReport_activeSide addr seq payload))
  | reportTimerExpiry dt stage => exact .inl (event_activeSide h (reportTimerExpires_activeSide stage))
  | recognisedChange dt zone => exact .inl (event_activeSide h (recognise_activeSide zone))
  | toggleTimerExpiry dt zone => exact .inl (event_activeSide h (toggleExpires_activeSide zone))
  | deadEntryTaken =>
    exact .inl (event_activeSide h (takeHead_activeSide _ fun e s => (takeDead_work e s).activeSide))
  | dwellEntryTaken =>
    exact .inl (event_activeSide h (takeHead_activeSide _ fun e s => (takeDwell_work e s).activeSide))
  | onTimerExpiry dt c => exact .inl (event_activeSide h (onTimerCheck_activeSide c))
  | clearingTimerExpiry dt c =>
    exact .inl (event_activeSide h (phaseExpiry_activeSide c _ fun x s => (judgeClearing_work x s).activeSide))
  | chargingExpiry dt c => exact .inl (event_activeSide h (phaseExpiry_activeSide c _ fun _ _ => rfl))
  | settleExpiry dt c =>
    exact .inl (event_activeSide h (phaseExpiry_activeSide c _ fun x s => (settleRead_work x s).activeSide))
  | arbiterChoice => exact .inl (event_activeSide h choose_activeSide)
  | emissionCompletion => exact .inl (event_activeSide h completeEmission_activeSide)
  | dPortGapEnd => exact .inl (event_activeSide h endGap_activeSide)
  | headTaken => exact .inl (event_activeSide h takeUpHead_activeSide)
  | uPortFrameSent => exact .inl (event_activeSide h upFrameSent_activeSide)
  | uPortGapEnd => exact .inl (event_activeSide h upGapEnds_activeSide)
  | framingFault dt p => exact .inl (event_activeSide h (spoilFrame_activeSide p))
  | frameCutShort dt p => exact .inl (event_activeSide h (spoilFrame_activeSide p))
  | lengthAbove32 dt p => exact .inl (event_activeSide h (faultyFrame_activeSide p _))
  | crcFault dt p => exact .inl (event_activeSide h (faultyFrame_activeSide p _))
  | wrongKind dt p => exact .inl (event_activeSide h (faultyFrame_activeSide p _))
  | breakBegin dt p => exact .inl (event_activeSide h (breakSeen_activeSide p))
  | breakEnd dt p => exact .inl (event_activeSide h (breakOver_activeSide p))
  | octetSampled dt p b => exact .inl (execOctetSampled_activeSide h)

/-! ## DISCARD (R9) -/

theorem workDiscard_eq (args : List Byte) (s : State) :
    workDiscard args s = (.plain .ok, { s with staging := s.active, stagingSet := s.activeSet }) := rfl

/-- A served DISCARD copies the active side over the staging side (R9). -/
theorem exec_discard {s : State} (hs : s.serves) (dt : Nat) (tag : Byte) :
    exec (.discard dt 15 tag []) s = .next
      (({ s.arrived dt .u with staging := s.active, stagingSet := s.activeSet } : State).answered
        ⟨tag, 9, []⟩ .ok []) :=
  mgmtFrame_served 0 hs rfl (by decide) (workDiscard_eq [] _) rfl rfl tag 9

/-- A step takes the front command with the rest left waiting, or idles on an empty queue. -/
theorem step_cases {s t : State} (h : step s = .next t) :
    t = s ∨ ∃ c rest, s.pending = c :: rest ∧ exec c { s with pending := rest } = .next t := by
  unfold step at h
  split at h
  · cases h
    exact .inl rfl
  · next c rest hq => exact .inr ⟨c, rest, hq, h⟩

/-- No install has happened while the committed flag is clear: the active side has its power-on values. -/
def State.activeSideLaw (s : State) : Prop := s.committed = false → s.active = [] ∧ s.activeSet = Settings.powerOn

theorem activeSideLaw_of_activeSide {s t : State} (h : t.activeSide = s.activeSide) (hs : s.activeSideLaw) :
    t.activeSideLaw := by
  obtain ⟨hactive, hset, hcommitted⟩ := activeSide_eq_iff.mp h
  intro ht
  rw [hactive, hset]
  exact hs (hcommitted ▸ ht)

theorem exec_keeps_activeSideLaw {i : Instr} {s t : State} (h : exec i s = .next t) (hs : s.activeSideLaw) :
    t.activeSideLaw := by
  rcases exec_activeSide h with kept | installed | restarted
  · exact activeSideLaw_of_activeSide kept hs
  · obtain ⟨_, _, hcommitted⟩ := activeSide_eq_iff.mp installed
    intro ht
    rw [hcommitted] at ht
    cases ht
  · exact activeSideLaw_of_activeSide restarted fun _ => ⟨rfl, rfl⟩

theorem step_keeps_activeSideLaw {s t : State} (h : step s = .next t) (hs : s.activeSideLaw) : t.activeSideLaw := by
  rcases step_cases h with rfl | ⟨c, rest, _, hc⟩
  · exact hs
  · exact exec_keeps_activeSideLaw hc hs

/-- Settles O23: a served DISCARD is its work, and what every command can do to the active side keeps the power-on
values until an install sets the committed flag. -/
theorem discardMakesTheSidesEqual : Obligations.DiscardMakesTheSidesEqual := by
  unfold Obligations.DiscardMakesTheSidesEqual
  exact ⟨fun dt tag s hs => exec_discard hs dt tag, ⟨rfl, rfl, rfl⟩, fun s t h => step_keeps_activeSideLaw h⟩

end Sys2Proof.Machine

namespace Sys2Proof.Machine

/-! ## What emission completions alone write (R33)

Beside the update of R33 itself, nothing an emission completion brings makes or discards a runtime record or writes an
effective level or an emission time; the lemma of each operation is named `<operation>_sameEmissions`. -/

theorem State.sameEmissions_iff {s t : State} :
    s.sameEmissions t ↔ t.chans.map ChanRec.emission = s.chans.map ChanRec.emission := Iff.rfl

/-- An operation that leaves the runtime records leaves their emissions. -/
theorem State.sameEmissions_of_chans {s t : State} (h : t.chans = s.chans) : s.sameEmissions t :=
  congrArg (List.map ChanRec.emission) h

theorem State.sameEmissions.trans {s t u : State} (h : s.sameEmissions t) (k : t.sameEmissions u) :
    s.sameEmissions u :=
  Eq.trans k h

/-- A fold of operations that each leave the emissions leaves them. -/
theorem State.sameEmissions.foldl {α : Type} {f : State → α → State} (h : ∀ (s : State) a, s.sameEmissions (f s a))
    (l : List α) (s : State) : s.sameEmissions (l.foldl f s) := by
  induction l generalizing s with
  | nil => exact sameEmissions_of_chans rfl
  | cons a l ih => exact (h s a).trans (ih _)

/-- The same channels are guarded before and after. -/
theorem State.sameEmissions.guarded {s t : State} (h : s.sameEmissions t) : t.guarded = s.guarded := by
  have ids := congrArg (List.map Prod.fst) h
  rwa [List.map_map, List.map_map] at ids

/-- Each runtime record afterwards has the emission of one that stood before. -/
theorem State.sameEmissions.of_mem {s t : State} (h : s.sameEmissions t) {x : ChanRec} (hx : x ∈ t.chans) :
    ∃ y ∈ s.chans, y.emission = x.emission := by
  have hmem : x.emission ∈ s.chans.map ChanRec.emission := h ▸ List.mem_map_of_mem hx
  exact List.mem_map.mp hmem

/-! ### Records, holds and causes -/

/-- A change of one runtime record that leaves its emission. -/
theorem modChan_sameEmissions {f : ChanRec → ChanRec} (hf : ∀ r, (f r).emission = r.emission) (c : Chan) (s : State) :
    s.sameEmissions (modChan c f s) := by
  rw [State.sameEmissions_iff, modChan, List.map_map]
  refine List.map_congr_left fun r _ => ?_
  simp only [Function.comp_apply]
  split
  · exact hf r
  · rfl

theorem setState_sameEmissions (c : Chan) (st : ChState) (v : Level) (s : State) :
    s.sameEmissions (setState c st v s) :=
  modChan_sameEmissions (fun _ => by rfl) c s

theorem stopOnTimer_sameEmissions (c : Chan) (s : State) : s.sameEmissions (stopOnTimer c s) :=
  modChan_sameEmissions (fun _ => by rfl) c s

/-- A channel's state is set, and its on-timer stopped, after an operation that leaves the runtime records. -/
theorem setState_stopOnTimer_sameEmissions {s t : State} (h : t.chans = s.chans) (c : Chan) (st : ChState) (v : Level) :
    s.sameEmissions (setState c st v (stopOnTimer c t)) :=
  (State.sameEmissions_of_chans h).trans ((stopOnTimer_sameEmissions c t).trans (setState_sameEmissions c st v _))

theorem forceOff_sameEmissions (c : Chan) (s : State) : s.sameEmissions (forceOff c s) := by
  have timerStopped : s.sameEmissions
      (modChan c (fun r => { r with onTimer := none }) (closeCtxOf c (removePend c s))) :=
    modChan_sameEmissions (fun _ => by rfl) c _
  unfold forceOff
  dsimp only
  split
  · exact timerStopped.trans (State.sameEmissions_of_chans rfl)
  · exact timerStopped

theorem addHold_sameEmissions (k : HoldKind) (c : Chan) (s : State) : s.sameEmissions (addHold k c s) := by
  unfold addHold
  split
  · exact State.sameEmissions_of_chans rfl
  · split
    · exact (forceOff_sameEmissions c s).trans (modChan_sameEmissions (fun _ => by rfl) c _)
    · exact modChan_sameEmissions (fun _ => by rfl) c s

theorem addHolds_sameEmissions (k : HoldKind) (cs : List Chan) (s : State) : s.sameEmissions (addHolds k cs s) :=
  State.sameEmissions.foldl (fun s c => addHold_sameEmissions k c s) cs s

theorem addCause_sameEmissions (k : Cause) (s : State) : s.sameEmissions (addCause k s) := by
  unfold addCause
  cases s.mode with
  | run => exact addHolds_sameEmissions .safe s.guarded (quenchAll s)
  | safe => exact State.sameEmissions_of_chans rfl
  | config => exact State.sameEmissions_of_chans rfl
  | shutdown => exact State.sameEmissions_of_chans rfl

/-! ### The Charge Sequencer -/

theorem lendDonor_sameEmissions (x : Ctx) (s : State) : s.sameEmissions (lendDonor x s) :=
  setState_stopOnTimer_sameEmissions (t := place x.donor .on .normal s) rfl x.donor .lent .off

theorem judgeClearing_sameEmissions (x : Ctx) (s : State) : s.sameEmissions (judgeClearing x s) := by
  unfold judgeClearing
  split
  · exact State.sameEmissions_of_chans rfl
  · split
    · exact State.sameEmissions_of_chans rfl
    · split
      · exact lendDonor_sameEmissions x s
      · exact State.sameEmissions_of_chans rfl

theorem chargeFailure_sameEmissions (t : Chan) (n : Nat) (s : State) : s.sameEmissions (chargeFailure t n s) := by
  have recorded : s.sameEmissions (makeRecord (.chargeFail t n) (closeCtx t s)) :=
    State.sameEmissions_of_chans (makeRecord_chans _ _)
  unfold chargeFailure
  dsimp only
  split
  · exact recorded.trans (addHold_sameEmissions .lock t _)
  · exact recorded.trans ((setState_sameEmissions t .off .off _).trans (addCause_sameEmissions .charge _))
  · exact recorded

theorem openCtx_sameEmissions (t : Chan) (s : State) : s.sameEmissions (openCtx t s) := by
  unfold openCtx
  split
  · exact State.sameEmissions_of_chans rfl
  · split
    · split
      · exact chargeFailure_sameEmissions t 0 s
      · exact judgeClearing_sameEmissions _ _
    · exact State.sameEmissions_of_chans rfl

theorem settleRead_sameEmissions (x : Ctx) (s : State) : s.sameEmissions (settleRead x s) := by
  unfold settleRead
  split
  · exact setState_sameEmissions x.target .on .on _
  · split
    · exact judgeClearing_sameEmissions _ _
    · exact chargeFailure_sameEmissions x.target x.attemptLimit s

/-! ### The Channel State Unit -/

theorem switchOff_sameEmissions (c : Chan) (s : State) : s.sameEmissions (switchOff c s) :=
  setState_stopOnTimer_sameEmissions (t := place c .off .normal s) rfl c .off .off

theorem urgentOff_sameEmissions (c : Chan) (s : State) : s.sameEmissions (urgentOff c s) :=
  setState_stopOnTimer_sameEmissions (t := place c .off .urgent s) rfl c .off .off

theorem onPath_sameEmissions (c : Chan) (q : Byte) (s : State) : s.sameEmissions (onPath c q s) := by
  unfold onPath
  split
  · exact State.sameEmissions_of_chans rfl
  · split
    · exact setState_sameEmissions c .on .on _
    · split
      · exact setState_sameEmissions c .wait .on s
      · split
        · exact setState_sameEmissions c .wait .on s
        · split
          · exact setState_sameEmissions c .wait .on s
          · split
            · exact (setState_sameEmissions c .priming .on s).trans (openCtx_sameEmissions c _)
            · exact setState_sameEmissions c .on .on _

theorem takeDead_sameEmissions (e : PendEntry) (s : State) : s.sameEmissions (takeDead e s) :=
  onPath_sameEmissions e.chan e.seq (removePend e.chan s)

theorem onTimerExpires_sameEmissions (c : Chan) (s : State) : s.sameEmissions (onTimerExpires c s) := by
  unfold onTimerExpires
  split
  · exact (urgentOff_sameEmissions c s).trans (State.sameEmissions_of_chans (makeRecord_chans _ _))
  · exact urgentOff_sameEmissions c (removePend c s)
  · exact State.sameEmissions_of_chans rfl

theorem startOnTimer_sameEmissions (c : Chan) (s : State) : s.sameEmissions (startOnTimer c s) := by
  refine modChan_sameEmissions (fun r => ?_) c s
  split <;> rfl

theorem dateDwell_sameEmissions (c : Chan) (s : State) : s.sameEmissions (dateDwell c s) := by
  unfold dateDwell
  split
  · split <;> exact State.sameEmissions_of_chans rfl
  · exact State.sameEmissions_of_chans rfl

/-! ### Emission completion -/

theorem onEmitted_sameEmissions (c : Chan) (s : State) : s.sameEmissions (onEmitted c s) := by
  have started := startOnTimer_sameEmissions c s
  have dated := started.trans (dateDwell_sameEmissions c _)
  unfold onEmitted
  split
  · dsimp only
    split
    · exact started.trans (onTimerExpires_sameEmissions c _)
    · exact started
  · dsimp only
    split
    · split
      · exact dated.trans (switchOff_sameEmissions _ (removePend _ _))
      · split
        · exact dated.trans (onTimerExpires_sameEmissions c _)
        · exact dated
    · split
      · exact dated.trans (onTimerExpires_sameEmissions c _)
      · exact dated
  · exact State.sameEmissions_of_chans rfl

theorem offEmitted_sameEmissions (c : Chan) (s : State) : s.sameEmissions (offEmitted c s) := by
  unfold offEmitted
  split
  · exact State.sameEmissions_of_chans rfl
  · split
    · split
      · dsimp only
        split
        · exact takeDead_sameEmissions _ (fileDated _ _ _ _ (removePend _ s))
        · exact State.sameEmissions_of_chans rfl
      · exact State.sameEmissions_of_chans rfl
    · exact State.sameEmissions_of_chans rfl

theorem emissionConsequence_sameEmissions (c : Chan) (v : Level) (s : State) :
    s.sameEmissions (emissionConsequence c v s) := by
  cases v with
  | on => exact onEmitted_sameEmissions c s
  | off => exact offEmitted_sameEmissions c s

theorem ctxEmitted_sameEmissions (rec : EmitRec) (t : Chan) (s : State) : s.sameEmissions (ctxEmitted rec t s) := by
  unfold ctxEmitted
  split
  · exact State.sameEmissions_of_chans rfl
  · split
    · split
      · exact judgeClearing_sameEmissions _ s
      · exact State.sameEmissions_of_chans rfl
    · split <;> exact State.sameEmissions_of_chans rfl
    · split
      · dsimp only
        split
        · exact settleRead_sameEmissions _ (modCtx _ _ s)
        · exact State.sameEmissions_of_chans rfl
      · exact State.sameEmissions_of_chans rfl
    · exact State.sameEmissions_of_chans rfl
    · exact State.sameEmissions_of_chans rfl

/-- After the update of R33, whatever a completed emission brings leaves the emissions of the runtime records. -/
theorem emissionTaken_sameEmissions (rec : EmitRec) (s : State) :
    (updateEmitted rec s).sameEmissions (emissionTaken rec s) :=
  (State.sameEmissions.foldl (fun s (cv : Chan × Level) => emissionConsequence_sameEmissions cv.1 cv.2 s) _ _).trans
    (State.sameEmissions.foldl (fun s t => ctxEmitted_sameEmissions rec t s) _ _)

theorem ChanRec.emitted_id (v : Level) (now : Time) (r : ChanRec) : (r.emitted v now).id = r.id := by
  cases v <;> rfl

theorem updateEmitted_guarded (rec : EmitRec) (s : State) : (updateEmitted rec s).guarded = s.guarded := by
  rw [State.guarded, updateEmitted, List.map_map]
  refine List.map_congr_left fun r _ => ?_
  simp only [Function.comp_apply]
  split
  · rfl
  · exact ChanRec.emitted_id _ _ r

theorem emissionTaken_guarded (rec : EmitRec) (s : State) : (emissionTaken rec s).guarded = s.guarded :=
  (emissionTaken_sameEmissions rec s).guarded.trans (updateEmitted_guarded rec s)

/-- The update of R33 turns every channel effectively OFF for which the frame carried OFF. -/
theorem updateEmitted_effective_off {rec : EmitRec} {s : State} {y : ChanRec} (hy : y ∈ (updateEmitted rec s).chans)
    (hoff : rec.level y.id = some .off) : y.effective = .off := by
  obtain ⟨r, -, rfl⟩ := List.mem_map.mp hy
  cases hlevel : rec.level r.id with
  | none =>
    simp only [hlevel, reduceCtorEq] at hoff
  | some v =>
    simp only [hlevel, ChanRec.emitted_id, Option.some.injEq] at hoff ⊢
    rw [hoff]
    rfl

/-- A channel for which a completed emission carried OFF is effectively OFF, whatever the emission brings. -/
theorem emissionTaken_effective_off {rec : EmitRec} {s : State} {x : ChanRec} (hx : x ∈ (emissionTaken rec s).chans)
    (hoff : rec.level x.id = some .off) : x.effective = .off := by
  obtain ⟨y, hy, hyx⟩ := (emissionTaken_sameEmissions rec s).of_mem hx
  obtain ⟨hid, heff, -⟩ : y.id = x.id ∧ y.effective = x.effective ∧ _ := by
    simpa only [ChanRec.emission, Prod.mk.injEq] using hyx
  exact heff ▸ updateEmitted_effective_off hy (hid ▸ hoff)

/-- A quench record carries OFF for every channel of its stage (R33). -/
theorem level_of_quench {r : SetRec} (hq : r.quench = true) {c : Chan} (hc : Chan.stage c = r.stage) :
    (EmitRec.set r).level c = some .off := by
  simp [EmitRec.level, hq, hc]

/-- The emission completion of a record in transmission: the transmitter goes to GAP, and the emission is taken. -/
theorem exec_emissionCompletion {s : State} (hr : s.inReset = false) {rec : EmitRec} {seq : Byte}
    (hsend : s.emit.dtx = .sending rec seq) (dt : Nat) :
    exec (.emissionCompletion dt) s =
      .next (emissionTaken rec { s.advance dt with emit := { s.emit with dtx := .gap } }) := by
  have hsend' : (s.advance dt).emit.dtx = .sending rec seq := hsend
  calc exec (.emissionCompletion dt) s = event dt completeEmission s := rfl
    _ = .next (completeEmission (s.advance dt)) := event_active hr dt _
    _ = _ := by rw [completeEmission, hsend']; rfl

/-! ## Frames of the D-port (R95 to R97) -/

theorem dFrame_of_sending {s : State} {rec : EmitRec} {seq : Byte} (h : s.emit.dtx = .sending rec seq) :
    s.dFrame = some (recordFrame rec seq) := by
  rw [State.dFrame, h]

theorem recordFrame_quench {r : SetRec} (hq : r.quench = true) (seq : Byte) :
    recordFrame (.set r) seq = ⟨.quench, BitVec.ofNat 4 r.stage.val, seq, []⟩ :=
  if_pos hq

theorem recordFrame_aux (r : AuxRec) (seq : Byte) :
    recordFrame (.aux r) seq = ⟨.aux, BitVec.ofNat 4 r.stage.val, seq, r.payload⟩ := rfl

/-- Octet 2 of a frame, after its two headers, is the length of its payload (R179). -/
theorem checked_length_octet (f : Frame) : f.checked.getD 2 0 = BitVec.ofNat 8 f.payload.length := rfl

/-- Settles O46: R33 turns every channel of the quenched stage effectively OFF, and no consequence of the completion
writes an effective level. -/
theorem quenchRecordSentAsQuenchFrame : Obligations.QuenchRecordSentAsQuenchFrame := by
  unfold Obligations.QuenchRecordSentAsQuenchFrame
  intro dt r seq s hreset hq hsend
  refine ⟨?_, _, exec_emissionCompletion hreset hsend dt, emissionTaken_guarded _ _, fun x hx hstage => ?_⟩
  · rw [dFrame_of_sending hsend, recordFrame_quench hq]
  · exact emissionTaken_effective_off hx (level_of_quench hq hstage)

/-! ## The arbiter's choice (R93) -/

theorem mem_of_oldest {rs : List EmitRec} {r : EmitRec} (h : oldest rs = some r) : r ∈ rs := by
  induction rs generalizing r with
  | nil => cases h
  | cons a rest ih =>
    unfold oldest at h
    cases hrest : oldest rest with
    | none =>
      rw [hrest] at h
      cases h
      exact List.mem_cons_self
    | some b =>
      simp only [hrest] at h
      split at h <;> cases h
      · exact List.mem_cons_of_mem a (ih hrest)
      · exact List.mem_cons_self

/-- The record chosen is a waiting setting record or a waiting AUX record. -/
theorem mem_of_choice {q : EmitQueue} {r : EmitRec} (h : q.choice = some r) :
    (∃ x ∈ q.sets, r = .set x) ∨ ∃ x ∈ q.auxs, r = .aux x := by
  unfold EmitQueue.choice at h
  split at h
  next u hurgent =>
    obtain ⟨x, hx, rfl⟩ := List.mem_map.mp (mem_of_oldest hurgent)
    cases h
    exact .inl ⟨x, (List.mem_filter.mp hx).1, rfl⟩
  next =>
    rcases List.mem_append.mp (mem_of_oldest h) with hset | haux
    · obtain ⟨x, hx, rfl⟩ := List.mem_map.mp hset
      exact .inl ⟨x, (List.mem_filter.mp hx).1, rfl⟩
    · obtain ⟨x, hx, rfl⟩ := List.mem_map.mp haux
      exact .inr ⟨x, hx, rfl⟩

theorem aux_mem_of_choice {q : EmitQueue} {r : AuxRec} (h : q.choice = some (.aux r)) : r ∈ q.auxs := by
  rcases mem_of_choice h with ⟨x, _, hx⟩ | ⟨x, hx, hrx⟩
  · cases hx
  · cases hrx
    exact hx

/-- A record in transmission after the choice of an IDLE transmitter is the one chosen, with the downstream sequence as
it stood (R93, R98). -/
theorem choose_sending {s : State} (hidle : s.emit.dtx = .idle) {rec : EmitRec} {seq : Byte}
    (h : (choose s).emit.dtx = .sending rec seq) : s.emit.choice = some rec ∧ seq = s.emit.dseq := by
  unfold choose at h
  rw [if_pos hidle] at h
  cases hchoice : s.emit.choice with
  | none =>
    rw [hchoice] at h
    simp only [hidle, reduceCtorEq] at h
  | some b =>
    rw [hchoice] at h
    cases b <;> cases h <;> exact ⟨rfl, rfl⟩

theorem exec_arbiterChoice {s : State} (hr : s.inReset = false) (dt : Nat) :
    exec (.arbiterChoice dt) s = .next (choose (s.advance dt)) :=
  event_active hr dt choose

/-- The arbiter sends an AUX record only from those that wait, with the downstream sequence (R93, R97). -/
theorem arbiterChoice_sends_aux {s t : State} (hr : s.inReset = false) (hidle : s.emit.dtx = .idle) {dt : Nat}
    (h : exec (.arbiterChoice dt) s = .next t) {r : AuxRec} {seq : Byte} (hsend : t.emit.dtx = .sending (.aux r) seq) :
    r ∈ s.emit.auxs ∧ seq = s.emit.dseq := by
  rw [exec_arbiterChoice hr] at h
  cases h
  obtain ⟨hchoice, hseq⟩ := choose_sending (s := s.advance dt) hidle hsend
  exact ⟨aux_mem_of_choice hchoice, hseq⟩

/-- What an AUX frame leaves does not depend on the sequence the controller gave it: no AUX record has a place for it
(R97). -/
theorem exec_auxFrame_seq (dt : Nat) (addr : BitVec 4) (seq1 seq2 : Byte) (payload : List Byte) (s : State) :
    exec (.auxFrame dt addr seq1 payload) s = exec (.auxFrame dt addr seq2 payload) s := rfl

/-- Settles O47: the frame in transmission is built from the record alone, and the arbiter gives it the downstream
sequence. -/
theorem auxRecordSentAsAuxFrame : Obligations.AuxRecordSentAsAuxFrame := by
  unfold Obligations.AuxRecordSentAsAuxFrame
  refine ⟨fun r seq s hsend => dFrame_of_sending hsend, ?_, exec_auxFrame_seq⟩
  rintro dt r s t hreset hidle hexec ⟨seq, hsend⟩
  obtain ⟨hmem, rfl⟩ := arbiterChoice_sends_aux hreset hidle hexec hsend
  have hframe : t.dFrame = some (recordFrame (.aux r) s.emit.dseq) := dFrame_of_sending hsend
  refine ⟨hmem, hframe, fun f hf => ?_⟩
  obtain rfl : recordFrame (.aux r) s.emit.dseq = f := Option.some.inj (hframe.symm.trans hf)
  exact checked_length_octet _

end Sys2Proof.Machine

namespace Sys2Proof.Machine

/-! ## Fields of an octet (section 11.5)

A number that the model reckons from its fields is one octet of those fields side by side, so each field is read back
from its own bits. -/

theorem octet_eq_of_toNat_eq {n : Nat} {b : Byte} (h : b.toNat = n) : octet n = b := by
  rw [← h, octet, BitVec.ofNat_toNat, BitVec.setWidth_eq]

theorem toNat_append_eq_add {m n : Nat} (x : BitVec m) (y : BitVec n) :
    (x ++ y).toNat = x.toNat * 2 ^ n + y.toNat := by
  rw [BitVec.toNat_append, ← Nat.shiftLeft_add_eq_or_of_lt y.isLt, Nat.shiftLeft_eq]

/-! ## Setting octets and REPORT payloads (R185) -/

theorem settingLevel_eq_on_iff (b : Byte) : settingLevel b = .on ↔ b.getLsbD 7 = true := by
  unfold settingLevel
  cases b.getLsbD 7 <;> decide

theorem settingOutput_val (b : Byte) : (settingOutput b).val = b.toNat % 16 := by
  simp [settingOutput]

theorem settingUnusedZero_iff (b : Byte) :
    settingUnusedZero b = true ↔ b.getLsbD 6 = false ∧ b.getLsbD 5 = false ∧ b.getLsbD 4 = false := by
  rw [settingUnusedZero, beq_iff_eq, BitVec.eq_of_getLsbD_eq_iff]
  constructor
  · intro h
    exact ⟨by simpa using h 2, by simpa using h 1, by simpa using h 0⟩
  · rintro ⟨h6, h5, h4⟩ i hi
    interval_cases i
    · simpa using h4
    · simpa using h5
    · simpa using h6

/-- The setting octet field by field: the level in bit 7, three unused bits, the output in bits 3 to 0. -/
theorem settingOctet_layout (x : OutSetting) :
    settingOctet x = BitVec.ofBool (x.level = .on) ++ 0#3 ++ BitVec.ofFin (w := 4) x.output := by
  refine octet_eq_of_toNat_eq ?_
  rw [toNat_append_eq_add, toNat_append_eq_add, BitVec.toNat_ofFin]
  cases x.level <;> rfl

theorem settingOutput_settingOctet (x : OutSetting) : settingOutput (settingOctet x) = x.output := by
  rw [settingOutput, settingOctet_layout, BitVec.extractLsb'_append_eq_right]

theorem settingLevel_settingOctet (x : OutSetting) : settingLevel (settingOctet x) = x.level := by
  have bit7 : (settingOctet x).getLsbD 7 = decide (x.level = .on) := by
    rw [settingOctet_layout]
    simp only [BitVec.getLsbD_append]
    simp
  rw [settingLevel, bit7]
  cases x.level <;> rfl

theorem settingUnusedZero_settingOctet (x : OutSetting) : settingUnusedZero (settingOctet x) = true := by
  rw [settingUnusedZero_iff, settingOctet_layout]
  simp only [BitVec.getLsbD_append]
  exact ⟨rfl, rfl, rfl⟩

/-- Outputs 8 to 15 stand in octet 1 of the mask, outputs 0 to 7 in octet 2. -/
theorem reportMask_getLsbD (b1 b2 : Byte) (n : Nat) :
    (reportMask b1 b2).getLsbD n = if 8 ≤ n then b1.getLsbD (n - 8) else b2.getLsbD n := by
  rw [reportMask, BitVec.getLsbD_append]
  by_cases h : n < 8
  · rw [if_pos h, if_neg (Nat.not_le.mpr h)]
  · rw [if_neg h, if_pos (Nat.not_lt.mp h)]

/-- One octet with an unused bit set spoils the whole payload (R70). -/
theorem drivePayloadWellFormed_eq_false {payload : List Byte} {b : Byte} (hmem : b ∈ payload)
    (hbit : settingUnusedZero b = false) : drivePayloadWellFormed payload = false := by
  have spoiled : payload.all settingUnusedZero = false := List.all_eq_false.mpr ⟨b, hmem, by simp [hbit]⟩
  rw [drivePayloadWellFormed, spoiled, Bool.and_false]

theorem takeDrive_malformed {payload : List Byte} (h : drivePayloadWellFormed payload = false) (addr : BitVec 4)
    (seq : Byte) (s : State) : takeDrive addr seq payload s = count .uMalformed 1 s := by
  unfold takeDrive
  cases stageOf addr with
  | none => rfl
  | some st => exact if_neg (by simp [h])

/-- A malformed DRIVE frame is counted once and does nothing else, whether Command Intake finds it so or it is longer
than a frame may be (R70, R179). -/
theorem exec_driveFrame_malformed {s : State} (hs : s.receives .u) {payload : List Byte}
    (h : drivePayloadWellFormed payload = false) (dt : Nat) (addr : BitVec 4) (seq : Byte) :
    exec (.driveFrame dt addr seq payload) s = .next (count .uMalformed 1 (s.arrived dt .u)) := by
  change event dt (receiveFrame .u payload (takeDrive addr seq payload)) s = _
  have takes : (s.advance dt).takesFrames .u = true := takesFrames_of_receives hs
  rw [event_active hs.1]
  rcases receiveFrame_cases .u payload (takeDrive addr seq payload) (s.advance dt) with
    ⟨deaf, _⟩ | ⟨_, _, long⟩ | ⟨_, _, taken⟩
  · rw [takes] at deaf
    cases deaf
  · rw [long]
    rfl
  · rw [taken, takeDrive_malformed h]
    rfl

/-- Settles O51: each field is read from its own bits, and Command Intake finds an unused bit in whichever octet has
it. -/
theorem settingAndReportLayouts : Obligations.SettingAndReportLayouts := by
  unfold Obligations.SettingAndReportLayouts
  refine ⟨fun b => ⟨settingLevel_eq_on_iff b, settingOutput_val b, settingUnusedZero_iff b⟩,
    fun x => ⟨settingOutput_settingOctet x, settingLevel_settingOctet x, settingUnusedZero_settingOctet x⟩,
    fun b1 b2 b3 n => ⟨reportMask_getLsbD b1 b2 n, rfl⟩, ?_⟩
  intro dt addr seq b payload s hs hmem hbits
  have spoiled : settingUnusedZero b = false := by
    rw [← Bool.not_eq_true, settingUnusedZero_iff]
    rintro ⟨h6, h5, h4⟩
    rw [h6, h5, h4] at hbits
    simp at hbits
  exact exec_driveFrame_malformed hs (drivePayloadWellFormed_eq_false hmem spoiled) dt addr seq

/-! ## The status summary (R189) -/

theorem toNat_ofBool_eq_bit (b : Bool) : (BitVec.ofBool b).toNat = bit b := by
  cases b <;> rfl

/-- The mode's code is what the two lowest bits can carry. -/
theorem modeCode_lt (m : Mode) : modeCode m < 4 := by
  cases m <;> decide

/-- The status summary field by field: three zero bits, the committed flag, whether the log holds a record, ALERT, and
the mode in bits 1 to 0. -/
theorem summary_layout (s : State) :
    s.summary = 0#3 ++ BitVec.ofBool s.committed ++ BitVec.ofBool (!s.log.isEmpty) ++ BitVec.ofBool s.alert ++
      BitVec.ofNat 2 (modeCode s.mode) := by
  refine octet_eq_of_toNat_eq ?_
  have mode_fits : modeCode s.mode < 4 := modeCode_lt s.mode
  simp only [toNat_append_eq_add, toNat_ofBool_eq_bit, BitVec.toNat_ofNat]
  omega

@[simp] theorem removeRecords_upQ (k : Nat) (s : State) : (removeRecords k s).upQ = s.upQ := by
  unfold removeRecords
  split <;> rfl

/-- A frame placed with the summary of a state carries that of the state it leaves: neither the Upstream Queue nor the
handler is in the summary (R157, R189). -/
theorem pushUp_respFrame_summary (req : Request) (r : Result) (body : List Byte) (h : Handler) (s : State) :
    (respFrame req r body s).payload.getD 2 0 = (pushUp (respFrame req r body s) { s with handler := h }).summary :=
  rfl

/-- A response's summary is taken after its LOG-READ removal (R175). -/
theorem placeResponse_frame (req : Request) (resp : Response) (s : State) :
    ∃ f, (placeResponse req resp s).upQ = s.upQ ++ [f] ∧
      f.payload.getD 2 0 = (placeResponse req resp s).summary := by
  refine ⟨respFrame req resp.result resp.body (removeRecords resp.taken s), ?_,
    pushUp_respFrame_summary req resp.result resp.body .idle (removeRecords resp.taken s)⟩
  rw [placeResponse, pushUp_upQ, removeRecords_upQ]

theorem busyReply_frame (req : Request) {s : State} (hroom : s.upQ.length < 8) :
    ∃ f, (busyReply req s).upQ = s.upQ ++ [f] ∧ f.payload.getD 2 0 = (busyReply req s).summary := by
  rcases busyReply_cases req s with ⟨_, placed⟩ | ⟨full, _⟩
  · rw [placed]
    exact ⟨respFrame req .busy [] s, pushUp_upQ _ s, pushUp_respFrame_summary req .busy [] s.handler s⟩
  · exact absurd hroom (Nat.not_lt.mpr full)

/-- Settles O52: the bits are those of the layout, and the frame that is placed carries the octet of the state that
places it. -/
theorem statusSummaryLayout : Obligations.StatusSummaryLayout := by
  unfold Obligations.StatusSummaryLayout
  refine ⟨fun s _ => ?_, placeResponse_frame, fun req s hroom => busyReply_frame req hroom⟩
  rw [summary_layout]
  simp only [BitVec.getLsbD_append, BitVec.extractLsb'_append_eq_right]
  refine ⟨?_, by simp, by simp, by simp, ?_⟩
  · simp only [BitVec.extractLsb'_append_eq_of_le, Nat.reduceLeDiff, Nat.reduceSub]
    rfl
  · cases s.mode <;> rfl

end Sys2Proof.Machine
